-- ==== Sys2Proof/Word.lean ====
section
/-! DEFINITION. The words of the engine: bytes, descriptor words, command and byte-order codes
(10_state.md rule R21, 30_encoding.md rule R75). -/

namespace Sys2Proof

/-- One byte of a buffer. -/
abbrev Byte := BitVec 8

/-- A 32-bit job or status register (10_state.md rules R21, R30). -/
abbrev Word32 := BitVec 32

/-- A FormatDescriptor word (30_encoding.md rule R76). -/
abbrev DescWord := BitVec 64

/-- A byte-order code or a command code (30_encoding.md rules R88, R89). -/
abbrev Code2 := BitVec 2

/-- A canonical pixel, four 8-bit unsigned channels (00_scope.md rule R14). -/
structure Pixel where
  r : Byte
  g : Byte
  b : Byte
  a : Byte
  deriving DecidableEq, Repr

end Sys2Proof
end

