-- ==== Sys2Proof/Config.lean ====
section
/-! DEFINITION. The implementation parameters of 00_scope.md rule R8 as one record that a machine carries unchanged (log
entry 6), and the free values of log entries 5, 21 and 22. -/

namespace Sys2Proof

/-- A byte order (30_encoding.md rule R88). -/
inductive Endian where
  | little
  | big
  deriving DecidableEq, Repr

/-- One row of the BC7 mode table (45_bc7.md rule R267). -/
structure Bc7Mode where
  ns : Nat
  pb : Nat
  rb : Nat
  isb : Nat
  cb : Nat
  ab : Nat
  epb : Nat
  spb : Nat
  ib : Nat
  ib2 : Nat
  deriving DecidableEq, Repr

/-- One item of a layout: block bits from `pos` hold bits `i` to `j`, in that order, of channel `ch` (0 red, 1 green,
2 blue) of endpoint `ep` (0 `w`, 1 `x`, 2 `y`, 3 `z`) (46_bptc_float.md rule R304). -/
structure LayoutItem where
  pos : Nat
  ch : Nat
  ep : Nat
  i : Nat
  j : Nat
  deriving DecidableEq, Repr

/-- One row of the BPTC-Float mode table (46_bptc_float.md rule R302). -/
structure BptcfMode where
  value : Nat
  epb : Nat
  dR : Nat
  dG : Nat
  dB : Nat
  delta : Bool
  regions : Nat
  layout : List LayoutItem
  deriving DecidableEq, Repr

/-- The parameters of 00_scope.md rule R8 and 93_implementation_defined.md section 2 that are tables or functions, a
function as the list of its values (log entry 6). -/
structure Tables where
  /-- `ETC1_MOD[8][4]` (44_etc1.md rule R246) -/
  etc1Mod : List (List Int)
  /-- the BC7 mode table (45_bc7.md rule R267) -/
  bc7Modes : List Bc7Mode
  /-- `BC7_P2[64][16]` (45_bc7.md rule R273) -/
  bc7P2 : List (List Nat)
  /-- `BC7_P3[64][16]` (45_bc7.md rule R274) -/
  bc7P3 : List (List Nat)
  /-- `BC7_A2[64]` (45_bc7.md rule R276) -/
  bc7A2 : List Nat
  /-- `BC7_A3A[64]` (45_bc7.md rule R276) -/
  bc7A3A : List Nat
  /-- `BC7_A3B[64]` (45_bc7.md rule R276) -/
  bc7A3B : List Nat
  /-- `BC7_W2[4]` (45_bc7.md rule R281) -/
  bc7W2 : List Nat
  /-- `BC7_W3[8]` (45_bc7.md rule R281) -/
  bc7W3 : List Nat
  /-- `BC7_W4[16]` (45_bc7.md rule R281) -/
  bc7W4 : List Nat
  /-- the BPTC-Float mode table with `BPTCF_LAYOUT[14]` (46_bptc_float.md rules R302, R304) -/
  bptcfModes : List BptcfMode
  /-- `HALF_TO_BYTE(h)` at every `h` (46_bptc_float.md rule R318) -/
  halfToByte : List Nat
  /-- the modulation table's weights of a PVRT4 word with `MM = 0` (47_pvrtc.md rule R339) -/
  pvrtMod0 : List Nat
  /-- the modulation table's weights of a PVRT4 word with `MM = 1` (47_pvrtc.md rule R339) -/
  pvrtMod1 : List Nat
  /-- the modulation table's punch column, for `MM = 1` (47_pvrtc.md rule R339) -/
  pvrtPunch : List Bool
  /-- `REP`, the weights of the stored codes of PVRT2 (47_pvrtc.md rule R341) -/
  pvrtRep : List Nat
  /-- the bilinear factors of the words `P`, `Q`, `R`, `S` at `4*v + u` for words 4 pixels wide (47_pvrtc.md rule R338) -/
  pvrtFactors4 : List (List Nat)
  /-- the bilinear factors of the words `P`, `Q`, `R`, `S` at `8*v + u` for words 8 pixels wide (47_pvrtc.md rule R338) -/
  pvrtFactors8 : List (List Nat)
  /-- `TILE3DS_ORDER[64]` (48_reorder.md rule R369) -/
  tile3dsOrder : List Nat
  /-- `SWITCH_BLOCK_HEIGHT(h)` at every `h` (48_reorder.md rule R383) -/
  switchBlockHeight : List Nat
  /-- `BAYER8[8][8]` (49_filter.md rule R397) -/
  bayer8 : List (List Nat)
  /-- `LUMA_ENCODE(R, G, B)` at `65536*R + 256*G + B` (42_channel_codec.md rule R178) -/
  lumaEncode : List Nat
  deriving DecidableEq, Repr

/-- The parameters the source leaves open (00_scope.md rule R8). -/
structure Config where
  /-- `NATIVE_END`, the platform's native byte order (20_memory.md rule R57) -/
  nativeEnd : Endian
  /-- `NIBBLE_SWAP_ON_NATIVE` (42_channel_codec.md rule R167) -/
  nibbleSwapOnNative : Bool
  /-- `DXT1ALT_BYTESWAP` (43_dxt_rgtc.md rule R207) -/
  dxt1AltByteswap : Bool
  /-- `PAL_MAX`, the most palettes one job carries (10_state.md rule R21) -/
  palMax : Nat
  /-- `IMPL_REORDER_PSP` (48_reorder.md rule R380) -/
  implReorderPsp : Bool
  /-- `IMPL_REORDER_SWITCH` (48_reorder.md rule R383) -/
  implReorderSwitch : Bool
  /-- `SRGTC_BIAS` (43_dxt_rgtc.md rule R221); where another bias than 128 takes a value outside 0 .. 255 the canonical
  byte is `Config.freeChannel` (log entry 21) -/
  srgtcBias : Int
  /-- the table and function parameters, `none` for the spec's defaults, which are in Machine/Tables.lean (log entry 6) -/
  tables : Option Tables
  deriving DecidableEq, Repr

/-- The spec's defaults, used in every test vector (00_scope.md rule R8). -/
def Config.default : Config where
  nativeEnd := .little
  nibbleSwapOnNative := true
  dxt1AltByteswap := false
  palMax := 16
  implReorderPsp := false
  implReorderSwitch := false
  srgtcBias := 128
  tables := none

/-- FREE VALUE (log entry 5): what a host reads from `OUT` (space 0) or `TBL[k]` (space k + 1) at an address
beyond what the last finished job wrote; the first argument is the machine's `jobs` counter, which every event that may
change such a byte advances.
93_implementation_defined.md rows 15 and 16: "any value". -/
opaque Config.freeByte : Nat → Nat → Nat → Byte

/-- The places where a parameter other than the default can take a channel out of its range, with no rule that says
which byte results. -/
inductive OpenByte where
  /-- a signed RGTC value with `SRGTC_BIAS` added, outside 0 .. 255 (43_dxt_rgtc.md rule R221, log entry 21) -/
  | srgtc
  /-- a BC7 channel interpolated outside 0 .. 255 (45_bc7.md rule R282, log entry 22) -/
  | bc7
  /-- a BPTC-Float channel interpolated to a value that has no 16-bit half-float (46_bptc_float.md rule R313, log entry
  22) -/
  | half
  /-- a `HALF_TO_BYTE` above 255 (46_bptc_float.md rule R318, log entry 22) -/
  | halfToByte
  /-- a PVRTC channel modulated outside 0 .. 255 (47_pvrtc.md rule R343, log entry 22) -/
  | pvrtc
  /-- a `LUMA_ENCODE` above 255 (42_channel_codec.md rule R178, log entry 22) -/
  | luma
  deriving DecidableEq, Repr

/-- FREE VALUE, DESIGN CHOICE (log entries 21 and 22): the byte of a channel whose value, the second argument, no rule
turns into a byte. The default parameters never give such a value. -/
opaque Config.freeChannel : OpenByte → Int → Byte

end Sys2Proof
end

