-- ==== Sys2Proof/Syntax.lean ====
section
/-! DEFINITION. The syntax of the engine's operations: the enumerations of a FormatDescriptor's fields
(10_state.md rule R24, 30_encoding.md rules R78 to R83) and the one inductive of instructions, a
constructor for every row of spec/opcode_table.json (30_encoding.md rule R92). -/

namespace Sys2Proof

/-- The bpp-class codes 0 to 7; 0 and 7 are reserved (30_encoding.md rule R78). -/
inductive Bpp where
  | rsv0 | b4 | b8 | b16 | b24 | b32 | b64 | rsv7
  deriving DecidableEq, Repr

/-- The thirteen non-indexed channel layouts (30_encoding.md rule R79). -/
inductive Layout where
  | rgb | rgba | bgra | argb | abgr | rgbx | bgrx | xrgb | xbgr | l | a | la | al
  deriving DecidableEq, Repr

/-- A legal channel-layout field: a plain layout, or Indexed (30_encoding.md rule R79). -/
inductive Ch where
  | plain (lay : Layout)
  | indexed
  deriving DecidableEq, Repr

/-- A channel a layout can name (30_encoding.md rule R79; `l` luminance, `x` padding). -/
inductive Chan where
  | r | g | b | a | l | x
  deriving DecidableEq, Repr

/-- The eighteen special-compression-kinds (30_encoding.md rule R80). -/
inductive Special where
  | etc1 | etc1a4 | dxt1 | dxt1alt | dxt1psp | dxt3 | dxt3psp | dxt5 | dxt5psp | rgtc1 | rgtc1s | rgtc2 | rgtc2s | bptc | bptcf | bptcsf | pvrt2 | pvrt4
  deriving DecidableEq, Repr

/-- The pixel-reordering-kinds (30_encoding.md rule R81). -/
inductive Reorder where
  | linear | tile3ds | morton | psp | switch
  deriving DecidableEq, Repr

/-- The output-filter-kinds (30_encoding.md rule R82). -/
inductive Filter where
  | none | dither
  deriving DecidableEq, Repr

/-- The force-channel-policy (30_encoding.md rule R83). -/
inductive Force where
  | zero | max
  deriving DecidableEq, Repr

/-- The operand fields of a plain descriptor word: bpp-class, the four width fields and the force policy
(30_encoding.md rules R76, R77). The width fields a layout does not use are carried as they stand:
`VALIDATE` checks them too (41_descriptor_validator.md rule R143). -/
structure PlainFmt where
  bpp : Bpp
  rbits : Nat
  gbits : Nat
  bbits : Nat
  abits : Nat
  force : Force
  deriving DecidableEq, Repr

/-- The operations of the engine, one constructor per row of the opcode table (30_encoding.md rule R92).
`chdec…` and `chenc…` carry the operand fields of `IN_FMT` and `OUT_FMT`, `idx` the bpp-class of `IN_FMT`,
`blk…` the reordering kind that places its tiles (40_pipeline.md rule R117). -/
inductive Instr where
  | start
  | clear
  | validate
  | chdecRgb (f : PlainFmt)
  | chdecRgba (f : PlainFmt)
  | chdecBgra (f : PlainFmt)
  | chdecArgb (f : PlainFmt)
  | chdecAbgr (f : PlainFmt)
  | chdecRgbx (f : PlainFmt)
  | chdecBgrx (f : PlainFmt)
  | chdecXrgb (f : PlainFmt)
  | chdecXbgr (f : PlainFmt)
  | chdecL (f : PlainFmt)
  | chdecA (f : PlainFmt)
  | chdecLa (f : PlainFmt)
  | chdecAl (f : PlainFmt)
  | idx (bpp : Bpp)
  | chencRgb (f : PlainFmt)
  | chencRgba (f : PlainFmt)
  | chencBgra (f : PlainFmt)
  | chencArgb (f : PlainFmt)
  | chencAbgr (f : PlainFmt)
  | chencRgbx (f : PlainFmt)
  | chencBgrx (f : PlainFmt)
  | chencXrgb (f : PlainFmt)
  | chencXbgr (f : PlainFmt)
  | chencL (f : PlainFmt)
  | chencA (f : PlainFmt)
  | chencLa (f : PlainFmt)
  | chencAl (f : PlainFmt)
  | blkEtc1 (ro : Reorder)
  | blkEtc1a4 (ro : Reorder)
  | blkDxt1 (ro : Reorder)
  | blkDxt1alt (ro : Reorder)
  | blkDxt1psp (ro : Reorder)
  | blkDxt3 (ro : Reorder)
  | blkDxt3psp (ro : Reorder)
  | blkDxt5 (ro : Reorder)
  | blkDxt5psp (ro : Reorder)
  | blkRgtc1 (ro : Reorder)
  | blkRgtc1s (ro : Reorder)
  | blkRgtc2 (ro : Reorder)
  | blkRgtc2s (ro : Reorder)
  | blkBptc (ro : Reorder)
  | blkBptcf (ro : Reorder)
  | blkBptcsf (ro : Reorder)
  | blkPvrt2 (ro : Reorder)
  | blkPvrt4 (ro : Reorder)
  | reordLinear
  | reordTile3ds
  | reordMorton
  | reordPsp
  | reordSwitch
  | filtNone
  | filtDither
  deriving DecidableEq, Repr

end Sys2Proof
end

