-- ==== Sys2Proof/Decode.lean ====
section
/-! DEFINITION. Decoding and encoding (30_encoding.md). A descriptor word is one word with a field for every
concern, so the same word selects an input operation, a reordering, a filter and an output operation: which one
is read depends on the `Slot` the sequencer fetches for (40_pipeline.md rule R112, log entry 2). -/

namespace Sys2Proof

/-- `v[lo+n-1:lo]`, the unsigned value of `n` bits of `v` from bit `lo` (00_scope.md rule R10). -/
def bitsOf (v lo n : Nat) : Nat := v / 2 ^ lo % 2 ^ n

/-! ## Fields of a descriptor word (30_encoding.md rule R76) -/

def descBpp (d : DescWord) : Nat := bitsOf d.toNat 0 3
def descCh (d : DescWord) : Nat := bitsOf d.toNat 3 5
def descRbits (d : DescWord) : Nat := bitsOf d.toNat 8 5
def descGbits (d : DescWord) : Nat := bitsOf d.toNat 13 5
def descBbits (d : DescWord) : Nat := bitsOf d.toNat 18 5
def descAbits (d : DescWord) : Nat := bitsOf d.toNat 23 5
def descSpecial (d : DescWord) : Nat := bitsOf d.toNat 28 6
def descReorder (d : DescWord) : Nat := bitsOf d.toNat 34 3
def descFilter (d : DescWord) : Nat := bitsOf d.toNat 37 2
def descForce (d : DescWord) : Nat := bitsOf d.toNat 39 1
/-- Bits 63:40, which must be zero (30_encoding.md rule R85). -/
def descReserved (d : DescWord) : Nat := bitsOf d.toNat 40 24

/-! ## Field value tables -/

/-- 30_encoding.md rule R78. -/
def bppOf : Nat → Bpp
  | 1 => .b4 | 2 => .b8 | 3 => .b16 | 4 => .b24 | 5 => .b32 | 6 => .b64
  | 0 => .rsv0 | _ => .rsv7

def Bpp.code : Bpp → Nat
  | .rsv0 => 0 | .b4 => 1 | .b8 => 2 | .b16 => 3 | .b24 => 4 | .b32 => 5 | .b64 => 6 | .rsv7 => 7

/-- The bits of one raw sample of a bpp-class (30_encoding.md rule R78); a reserved class has no samples. -/
def Bpp.bits : Bpp → Nat
  | .b4 => 4 | .b8 => 8 | .b16 => 16 | .b24 => 24 | .b32 => 32 | .b64 => 64
  | .rsv0 => 0 | .rsv7 => 0

/-- A bpp-class code that is not reserved (30_encoding.md rule R78). -/
def Bpp.legal (b : Bpp) : Bool := b != .rsv0 && b != .rsv7

/-- The channels of a layout, most significant first (30_encoding.md rule R79). -/
def Layout.channels : Layout → List Chan
  | .rgb => [.r, .g, .b]
  | .rgba => [.r, .g, .b, .a]
  | .bgra => [.b, .g, .r, .a]
  | .argb => [.a, .r, .g, .b]
  | .abgr => [.a, .b, .g, .r]
  | .rgbx => [.r, .g, .b, .x]
  | .bgrx => [.b, .g, .r, .x]
  | .xrgb => [.x, .r, .g, .b]
  | .xbgr => [.x, .b, .g, .r]
  | .l => [.l]
  | .a => [.a]
  | .la => [.l, .a]
  | .al => [.a, .l]

/-- The width field a channel uses: `L` uses `RBITS`, `X` uses `ABITS` (10_state.md rule R26). -/
def PlainFmt.width (f : PlainFmt) : Chan → Nat
  | .r => f.rbits | .g => f.gbits | .b => f.bbits | .a => f.abits | .l => f.rbits | .x => f.abits

/-- 30_encoding.md rule R79: the layouts by code, 1 to 14; the other codes are reserved. -/
def chOf : Nat → Option Ch
  | 1 => some (.plain .rgb)
  | 2 => some (.plain .rgba)
  | 3 => some (.plain .bgra)
  | 4 => some (.plain .argb)
  | 5 => some (.plain .abgr)
  | 6 => some (.plain .rgbx)
  | 7 => some (.plain .bgrx)
  | 8 => some (.plain .xrgb)
  | 9 => some (.plain .xbgr)
  | 10 => some (.plain .l)
  | 11 => some (.plain .a)
  | 12 => some (.plain .la)
  | 13 => some (.plain .al)
  | 14 => some .indexed
  | _ => none

def Layout.code : Layout → Nat
  | .rgb => 1
  | .rgba => 2
  | .bgra => 3
  | .argb => 4
  | .abgr => 5
  | .rgbx => 6
  | .bgrx => 7
  | .xrgb => 8
  | .xbgr => 9
  | .l => 10
  | .a => 11
  | .la => 12
  | .al => 13

/-- 30_encoding.md rule R80: the special kinds by code, 1 to 18. Code 0 is "none", codes 19 to 63 are reserved. -/
def specialOf : Nat → Option Special
  | 1 => some .etc1
  | 2 => some .etc1a4
  | 3 => some .dxt1
  | 4 => some .dxt1alt
  | 5 => some .dxt1psp
  | 6 => some .dxt3
  | 7 => some .dxt3psp
  | 8 => some .dxt5
  | 9 => some .dxt5psp
  | 10 => some .rgtc1
  | 11 => some .rgtc1s
  | 12 => some .rgtc2
  | 13 => some .rgtc2s
  | 14 => some .bptc
  | 15 => some .bptcf
  | 16 => some .bptcsf
  | 17 => some .pvrt2
  | 18 => some .pvrt4
  | _ => none

def Special.code : Special → Nat
  | .etc1 => 1
  | .etc1a4 => 2
  | .dxt1 => 3
  | .dxt1alt => 4
  | .dxt1psp => 5
  | .dxt3 => 6
  | .dxt3psp => 7
  | .dxt5 => 8
  | .dxt5psp => 9
  | .rgtc1 => 10
  | .rgtc1s => 11
  | .rgtc2 => 12
  | .rgtc2s => 13
  | .bptc => 14
  | .bptcf => 15
  | .bptcsf => 16
  | .pvrt2 => 17
  | .pvrt4 => 18

/-- 30_encoding.md rule R81; codes 5 to 7 are reserved. -/
def reorderOf : Nat → Option Reorder
  | 0 => some .linear
  | 1 => some .tile3ds
  | 2 => some .morton
  | 3 => some .psp
  | 4 => some .switch
  | _ => none

def Reorder.code : Reorder → Nat
  | .linear => 0
  | .tile3ds => 1
  | .morton => 2
  | .psp => 3
  | .switch => 4

/-- 30_encoding.md rule R82; codes 2 and 3 are reserved. -/
def filterOf : Nat → Option Filter
  | 0 => some .none
  | 1 => some .dither
  | _ => none

def Filter.code : Filter → Nat
  | .none => 0
  | .dither => 1

/-- 30_encoding.md rule R83. -/
def forceOf : Nat → Force
  | 0 => .zero
  | _ => .max

def Force.code : Force → Nat
  | .zero => 0
  | .max => 1

/-- 30_encoding.md rule R88: 0 little-endian, 1 big-endian, 2 and 3 reserved. -/
def endianOf (e : Code2) : Option Endian :=
  if e = 0 then some .little else if e = 1 then some .big else none

def Endian.code : Endian → Code2
  | .little => 0
  | .big => 1

/-- The operand fields of a plain descriptor word (30_encoding.md rules R76, R84). -/
def plainOf (d : DescWord) : PlainFmt where
  bpp := bppOf (descBpp d)
  rbits := descRbits d
  gbits := descGbits d
  bbits := descBbits d
  abits := descAbits d
  force := forceOf (descForce d)

/-! ## Decoding -/

/-- Where the sequencer reads an instruction from: the command register, nowhere (`VALIDATE` has no selecting
bits), the opcode of `IN_FMT`, its `REORDER` field, the `FILTER` field of `OUT_FMT`, or the layout of `OUT_FMT`
(30_encoding.md rules R77, R92). -/
inductive Slot where
  | cmd | validate | inOp | inReorder | outFilter | outPack
  deriving DecidableEq, Repr

/-- Why a word is no instruction, by name. -/
inductive DecodeError where
  /-- command code 0 or 3, "ignored" (30_encoding.md rule R89) -/
  | ignoredCommand
  /-- bits 63:40 not zero (30_encoding.md rule R85) -/
  | reservedBits
  /-- `SPECIAL` code 19 to 63 (30_encoding.md rule R80) -/
  | reservedSpecial
  /-- `REORDER` code 5 to 7 (30_encoding.md rule R81) -/
  | reservedReorder
  /-- `FILTER` code 2 or 3 (30_encoding.md rule R82) -/
  | reservedFilter
  /-- `CH` code 0 or 15 to 31 where a layout is needed (30_encoding.md rule R79) -/
  | reservedLayout
  /-- an output word with a special kind or the Indexed layout: no operation packs it
  (41_descriptor_validator.md rule R150) -/
  | noOutputOperation
  deriving DecidableEq, Repr

def chdecOf : Layout → PlainFmt → Instr
  | .rgb, f => .chdecRgb f
  | .rgba, f => .chdecRgba f
  | .bgra, f => .chdecBgra f
  | .argb, f => .chdecArgb f
  | .abgr, f => .chdecAbgr f
  | .rgbx, f => .chdecRgbx f
  | .bgrx, f => .chdecBgrx f
  | .xrgb, f => .chdecXrgb f
  | .xbgr, f => .chdecXbgr f
  | .l, f => .chdecL f
  | .a, f => .chdecA f
  | .la, f => .chdecLa f
  | .al, f => .chdecAl f

def chencOf : Layout → PlainFmt → Instr
  | .rgb, f => .chencRgb f
  | .rgba, f => .chencRgba f
  | .bgra, f => .chencBgra f
  | .argb, f => .chencArgb f
  | .abgr, f => .chencAbgr f
  | .rgbx, f => .chencRgbx f
  | .bgrx, f => .chencBgrx f
  | .xrgb, f => .chencXrgb f
  | .xbgr, f => .chencXbgr f
  | .l, f => .chencL f
  | .a, f => .chencA f
  | .la, f => .chencLa f
  | .al, f => .chencAl f

def blkOf : Special → Reorder → Instr
  | .etc1, ro => .blkEtc1 ro
  | .etc1a4, ro => .blkEtc1a4 ro
  | .dxt1, ro => .blkDxt1 ro
  | .dxt1alt, ro => .blkDxt1alt ro
  | .dxt1psp, ro => .blkDxt1psp ro
  | .dxt3, ro => .blkDxt3 ro
  | .dxt3psp, ro => .blkDxt3psp ro
  | .dxt5, ro => .blkDxt5 ro
  | .dxt5psp, ro => .blkDxt5psp ro
  | .rgtc1, ro => .blkRgtc1 ro
  | .rgtc1s, ro => .blkRgtc1s ro
  | .rgtc2, ro => .blkRgtc2 ro
  | .rgtc2s, ro => .blkRgtc2s ro
  | .bptc, ro => .blkBptc ro
  | .bptcf, ro => .blkBptcf ro
  | .bptcsf, ro => .blkBptcsf ro
  | .pvrt2, ro => .blkPvrt2 ro
  | .pvrt4, ro => .blkPvrt4 ro

def reordOf : Reorder → Instr
  | .linear => .reordLinear
  | .tile3ds => .reordTile3ds
  | .morton => .reordMorton
  | .psp => .reordPsp
  | .switch => .reordSwitch

def filtOf : Filter → Instr
  | .none => .filtNone
  | .dither => .filtDither

/-- The command codes (30_encoding.md rule R89). -/
def decodeCmd (c : Nat) : Except DecodeError Instr :=
  match c % 4 with
  | 1 => .ok .start
  | 2 => .ok .clear
  | _ => .error .ignoredCommand

/-- The opcode of an input word: `SPECIAL`, completed by `CH` when there is no special kind (30_encoding.md rule
R77). -/
def decodeInOp (d : DescWord) (ro : Reorder) : Except DecodeError Instr :=
  match specialOf (descSpecial d) with
  | some k => .ok (blkOf k ro)
  | none =>
    match chOf (descCh d) with
    | some (.plain lay) => .ok (chdecOf lay (plainOf d))
    | some .indexed => .ok (.idx (bppOf (descBpp d)))
    | none => .error .reservedLayout

/-- The packing operation of an output word (30_encoding.md rule R92). -/
def decodeOutPack (d : DescWord) : Except DecodeError Instr :=
  if descSpecial d ≠ 0 then .error .noOutputOperation
  else
    match chOf (descCh d) with
    | some (.plain lay) => .ok (chencOf lay (plainOf d))
    | some .indexed => .error .noOutputOperation
    | none => .error .reservedLayout

/-- Decode a word for a slot. Reserved `SPECIAL`, `REORDER`, `FILTER` codes and bits 63:40 are refused in every
descriptor word (30_encoding.md rule R85). -/
def decode (slot : Slot) (d : DescWord) : Except DecodeError Instr :=
  match slot with
  | .cmd => decodeCmd d.toNat
  | .validate => .ok .validate
  | _ =>
    if descReserved d ≠ 0 then .error .reservedBits
    else if 18 < descSpecial d then .error .reservedSpecial
    else
      match reorderOf (descReorder d), filterOf (descFilter d) with
      | none, _ => .error .reservedReorder
      | some _, none => .error .reservedFilter
      | some ro, some fi =>
        match slot with
        | .inReorder => .ok (reordOf ro)
        | .outFilter => .ok (filtOf fi)
        | .outPack => decodeOutPack d
        | _ => decodeInOp d ro

/-! ## Encoding -/

/-- The word of the plain fields with channel code `ch` (30_encoding.md rule R76). -/
def plainWord (ch : Nat) (f : PlainFmt) : Nat :=
  f.bpp.code + 2 ^ 3 * ch + 2 ^ 8 * f.rbits + 2 ^ 13 * f.gbits + 2 ^ 18 * f.bbits + 2 ^ 23 * f.abits +
    2 ^ 39 * f.force.code

/-- The word of a special kind with a reordering (30_encoding.md rules R76, R93). -/
def specialWord (k : Special) (ro : Reorder) : Nat := 2 ^ 28 * k.code + 2 ^ 34 * ro.code

/-- The word of an instruction as a number; the fields that belong to other operations are zero. -/
def encodeNat : Instr → Nat
  | .start => 1
  | .clear => 2
  | .validate => 0
  | .chdecRgb f => plainWord (Layout.code .rgb) f
  | .chdecRgba f => plainWord (Layout.code .rgba) f
  | .chdecBgra f => plainWord (Layout.code .bgra) f
  | .chdecArgb f => plainWord (Layout.code .argb) f
  | .chdecAbgr f => plainWord (Layout.code .abgr) f
  | .chdecRgbx f => plainWord (Layout.code .rgbx) f
  | .chdecBgrx f => plainWord (Layout.code .bgrx) f
  | .chdecXrgb f => plainWord (Layout.code .xrgb) f
  | .chdecXbgr f => plainWord (Layout.code .xbgr) f
  | .chdecL f => plainWord (Layout.code .l) f
  | .chdecA f => plainWord (Layout.code .a) f
  | .chdecLa f => plainWord (Layout.code .la) f
  | .chdecAl f => plainWord (Layout.code .al) f
  | .idx bpp => bpp.code + 2 ^ 3 * 14
  | .chencRgb f => plainWord (Layout.code .rgb) f
  | .chencRgba f => plainWord (Layout.code .rgba) f
  | .chencBgra f => plainWord (Layout.code .bgra) f
  | .chencArgb f => plainWord (Layout.code .argb) f
  | .chencAbgr f => plainWord (Layout.code .abgr) f
  | .chencRgbx f => plainWord (Layout.code .rgbx) f
  | .chencBgrx f => plainWord (Layout.code .bgrx) f
  | .chencXrgb f => plainWord (Layout.code .xrgb) f
  | .chencXbgr f => plainWord (Layout.code .xbgr) f
  | .chencL f => plainWord (Layout.code .l) f
  | .chencA f => plainWord (Layout.code .a) f
  | .chencLa f => plainWord (Layout.code .la) f
  | .chencAl f => plainWord (Layout.code .al) f
  | .blkEtc1 ro => specialWord .etc1 ro
  | .blkEtc1a4 ro => specialWord .etc1a4 ro
  | .blkDxt1 ro => specialWord .dxt1 ro
  | .blkDxt1alt ro => specialWord .dxt1alt ro
  | .blkDxt1psp ro => specialWord .dxt1psp ro
  | .blkDxt3 ro => specialWord .dxt3 ro
  | .blkDxt3psp ro => specialWord .dxt3psp ro
  | .blkDxt5 ro => specialWord .dxt5 ro
  | .blkDxt5psp ro => specialWord .dxt5psp ro
  | .blkRgtc1 ro => specialWord .rgtc1 ro
  | .blkRgtc1s ro => specialWord .rgtc1s ro
  | .blkRgtc2 ro => specialWord .rgtc2 ro
  | .blkRgtc2s ro => specialWord .rgtc2s ro
  | .blkBptc ro => specialWord .bptc ro
  | .blkBptcf ro => specialWord .bptcf ro
  | .blkBptcsf ro => specialWord .bptcsf ro
  | .blkPvrt2 ro => specialWord .pvrt2 ro
  | .blkPvrt4 ro => specialWord .pvrt4 ro
  | .reordLinear => 2 ^ 34 * Reorder.code .linear
  | .reordTile3ds => 2 ^ 34 * Reorder.code .tile3ds
  | .reordMorton => 2 ^ 34 * Reorder.code .morton
  | .reordPsp => 2 ^ 34 * Reorder.code .psp
  | .reordSwitch => 2 ^ 34 * Reorder.code .switch
  | .filtNone => 2 ^ 37 * Filter.code .none
  | .filtDither => 2 ^ 37 * Filter.code .dither

/-- The word of a well-formed instruction, as its slot's register holds it. -/
def encode (i : Instr) : DescWord := BitVec.ofNat 64 (encodeNat i)

/-- The slot an instruction is fetched from (30_encoding.md rule R92). -/
def Instr.slot : Instr → Slot
  | .start => .cmd
  | .clear => .cmd
  | .validate => .validate
  | .chdecRgb _ => .inOp
  | .chdecRgba _ => .inOp
  | .chdecBgra _ => .inOp
  | .chdecArgb _ => .inOp
  | .chdecAbgr _ => .inOp
  | .chdecRgbx _ => .inOp
  | .chdecBgrx _ => .inOp
  | .chdecXrgb _ => .inOp
  | .chdecXbgr _ => .inOp
  | .chdecL _ => .inOp
  | .chdecA _ => .inOp
  | .chdecLa _ => .inOp
  | .chdecAl _ => .inOp
  | .idx _ => .inOp
  | .chencRgb _ => .outPack
  | .chencRgba _ => .outPack
  | .chencBgra _ => .outPack
  | .chencArgb _ => .outPack
  | .chencAbgr _ => .outPack
  | .chencRgbx _ => .outPack
  | .chencBgrx _ => .outPack
  | .chencXrgb _ => .outPack
  | .chencXbgr _ => .outPack
  | .chencL _ => .outPack
  | .chencA _ => .outPack
  | .chencLa _ => .outPack
  | .chencAl _ => .outPack
  | .blkEtc1 _ => .inOp
  | .blkEtc1a4 _ => .inOp
  | .blkDxt1 _ => .inOp
  | .blkDxt1alt _ => .inOp
  | .blkDxt1psp _ => .inOp
  | .blkDxt3 _ => .inOp
  | .blkDxt3psp _ => .inOp
  | .blkDxt5 _ => .inOp
  | .blkDxt5psp _ => .inOp
  | .blkRgtc1 _ => .inOp
  | .blkRgtc1s _ => .inOp
  | .blkRgtc2 _ => .inOp
  | .blkRgtc2s _ => .inOp
  | .blkBptc _ => .inOp
  | .blkBptcf _ => .inOp
  | .blkBptcsf _ => .inOp
  | .blkPvrt2 _ => .inOp
  | .blkPvrt4 _ => .inOp
  | .reordLinear => .inReorder
  | .reordTile3ds => .inReorder
  | .reordMorton => .inReorder
  | .reordPsp => .inReorder
  | .reordSwitch => .inReorder
  | .filtNone => .outFilter
  | .filtDither => .outFilter

/-! ## The opcode table's words -/

/-- The slot that a word of the opcode table is read for, where the table's bits leave it open (log entry 2): a
word of at most 8 bits is a command, but for 0, which stands for `VALIDATE` (the row without bits); a longer word is
an input descriptor when it names a special kind or a layout, else a reordering, else a filter, else the linear
reordering. -/
def tableSlot (nbits w : Nat) : Slot :=
  if nbits ≤ 8 then (if w % 4 = 0 then .validate else .cmd)
  else
    let d := BitVec.ofNat 64 w
    if descSpecial d ≠ 0 ∨ descCh d ≠ 0 then .inOp
    else if descReorder d ≠ 0 then .inReorder
    else if descFilter d ≠ 0 then .outFilter
    else .inReorder

/-- The instruction the decoder reads from a word numbered as the opcode table numbers it. -/
def decodeTableWord (nbits w : Nat) : Option Instr :=
  match decode (tableSlot nbits w) (BitVec.ofNat 64 w) with
  | .ok i => some i
  | .error _ => none

end Sys2Proof
end

