-- ==== Sys2Proof/Machine/State.lean ====
section
/-! DEFINITION. The state of one engine (10_state.md), the reasons a step can stop, and the state after reset
(70_reset_and_hazards.md rule R441). -/

namespace Sys2Proof.Machine

/-- `STATUS.STATE` (10_state.md rule R30). -/
inductive Status where
  | idle | busy | done | error
  deriving DecidableEq, Repr

/-- `ERR_CODE` (10_state.md rule R30, 60_exceptions.md rule R410). -/
inductive ErrCode where
  | none | validation | unsupported | truncated | paletteRange
  deriving DecidableEq, Repr

/-- `STAGE`, the sequencer's position, in place of a program counter (10_state.md rule R33). -/
inductive Stage where
  | idle | validate | decode | reorder | filter | pack | done | error
  deriving DecidableEq, Repr

/-- The job registers (10_state.md rule R21), by name. -/
inductive JobReg where
  | width | height | inFmt | inEnd | outFmt | outEnd | palFmt | palEnd | palCount | inLen
  | palLen (k : Nat)
  deriving DecidableEq, Repr

/-- A buffer's contents: (address, byte) pairs with strictly rising addresses and no byte equal to what an unlisted
address reads as (20_memory.md rule R50; the canonical form is `Memory.wf` in Ops.lean). -/
abbrev Memory := List Host.Cell

/-- The reasons the machine stops with a fault. -/
inductive Fault where
  /-- Raised by `step` when the status is `BUSY` and `STAGE` names no running stage. No job reaches such a state
  (log entry 15). Safe: the model stops where the spec has no state. -/
  | noStage
  /-- Raised by a host access to `PAL_LEN[k]`, `TBL_LEN[k]`, `PAL[k]` or `TBL[k]` with `k >= PAL_MAX`, which do not
  exist (10_state.md rule R21). Safe. -/
  | noSuchRegister
  /-- Raised by a host write to a buffer byte at or beyond 2^32: lengths are 32-bit registers, so no such byte exists
  (10_state.md rule R21, 20_memory.md rule R50). Safe. -/
  | noSuchAddress
  deriving DecidableEq, Repr

/-- The reasons the model gives no meaning. -/
inductive Refusal where
  /-- Raised by `exec` for an instruction that has no meaning yet; no arm does. Safe. -/
  | notModelled (mnemonic : String)
  /-- Raised by `step` when a descriptor register holds a word that is no instruction in the stage that reads it.
  `VALIDATE` rejects such a word, so no job reaches this (log entry 2). Safe. -/
  | reservedEncoding (e : DecodeError)
  /-- Raised by a host access while the status is `BUSY`, which "this spec does not define"
  (70_reset_and_hazards.md rule R451), or while a command placed in `CMD` waits for its step (20_memory.md rule R69).
  Safe. -/
  | hostAccessWhileBusy
  /-- Raised by the host's write of `CMD = 1` in `IDLE`, never by an instruction, when the job would read a register that
  the host has not written since reset: the spec puts that access of the host outside itself (70_reset_and_hazards.md rules
  R442, R443, 10_state.md rule R40, 93_implementation_defined.md row 13, log entry 3). Safe. -/
  | bootIncomplete
  deriving DecidableEq, Repr

/-- The state of one engine: configuration, job registers (10_state.md rule R21), status registers (rule R30), the
command register (rule R32), the buffers (20_memory.md rule R50), the internal job state (rules R33, R36) and
the model's own fields (log entries 3 and 5). -/
structure State where
  /-- the implementation parameters (00_scope.md rule R8) -/
  cfg : Config
  width : Word32
  height : Word32
  inFmt : DescWord
  inEnd : Code2
  outFmt : DescWord
  outEnd : Code2
  palFmt : DescWord
  palEnd : Code2
  palCount : BitVec 8
  inLen : Word32
  /-- `PAL_LEN[k]`, `k < PAL_MAX` -/
  palLen : List Word32
  status : Status
  errCode : ErrCode
  errInfo : Word32
  outLen : Word32
  /-- `TBL_LEN[k]`, `k < PAL_MAX` -/
  tblLen : List Word32
  /-- a command placed in `CMD` for the next step; the host's own write of `CMD` leaves none (10_state.md rule R32, log
  entry 13) -/
  cmd : Option Code2
  inBuf : Memory
  /-- `PAL[k]`, `k < PAL_MAX` -/
  pal : List Memory
  out : Memory
  /-- `TBL[k]`, `k < PAL_MAX` -/
  tbl : List Memory
  stage : Stage
  cur : Word32
  canon : List Pixel
  idxBuf : List Byte
  tables : List (List Pixel)
  tile : List Pixel
  fault : Option (ErrCode × Word32)
  /-- the job registers the host has written since reset (log entry 3) -/
  written : List JobReg
  /-- how many finished jobs, resets and host writes of `OUT` and `TBL[k]` the machine has seen: selects the free bytes (log
  entry 5) -/
  jobs : Nat
  deriving DecidableEq, Repr

/-- `CANON_FMT` (10_state.md rule R28, 30_encoding.md rule R93). -/
def canonFmt : DescWord := 0x0000008004210825

/-- The state after reset of a machine with the given parameters (70_reset_and_hazards.md rule R441). Registers that
rule calls unspecified hold 0 (log entry 3). -/
def State.resetOf (c : Config) : State where
  cfg := c
  width := 0
  height := 0
  inFmt := 0
  inEnd := 0
  outFmt := canonFmt
  outEnd := c.nativeEnd.code
  palFmt := 0
  palEnd := 0
  palCount := 0
  inLen := 0
  palLen := List.replicate c.palMax 0
  status := .idle
  errCode := .none
  errInfo := 0
  outLen := 0
  tblLen := List.replicate c.palMax 0
  cmd := none
  inBuf := []
  pal := List.replicate c.palMax []
  out := []
  tbl := List.replicate c.palMax []
  stage := .idle
  cur := 0
  canon := []
  idxBuf := []
  tables := []
  tile := []
  fault := none
  written := []
  jobs := 0

/-- The machine right after reset, with the spec's default parameters (00_scope.md rule R8). -/
def State.reset : State := State.resetOf Config.default

/-- What an instruction answers. -/
abbrev Result := Host.Outcome State Fault Refusal

end Sys2Proof.Machine
end

