-- ==== Sys2Proof/Machine/Ops.lean ====
section
/-! DEFINITION. The named operations over buffers, registers and the sequencer: reading and writing bytes
(20_memory.md), moving `STAGE` (40_pipeline.md rule R112), raising an error (60_exceptions.md rules R411, R416),
ending a job (40_pipeline.md rule R122) and returning from an error (10_state.md rule R32). -/

namespace Sys2Proof.Machine

/-! ## Bytes of a buffer -/

/-- What a byte nothing has written reads as. DESIGN CHOICE, log entry 4. -/
def unlistedByte : Byte := 0

/-- The byte of a buffer at an address (`MemRead` of one byte, 00_scope.md rule R12). -/
def Memory.read : Memory → Nat → Byte
  | [], _ => unlistedByte
  | (b, v) :: t, a => if b = a then v else Memory.read t a

/-- A cell for a byte at an address, none where the byte is what an unlisted address reads as. -/
def Memory.cell (a : Nat) (v : Byte) : Memory := if v = unlistedByte then [] else [(a, v)]

/-- A buffer with one byte written (`MemWrite` of one byte, 00_scope.md rule R12), in canonical form. -/
def Memory.write : Memory → Nat → Byte → Memory
  | [], a, v => Memory.cell a v
  | (b, x) :: t, a, v =>
    if a < b then Memory.cell a v ++ (b, x) :: t
    else if a = b then Memory.cell a v ++ t
    else (b, x) :: Memory.write t a v

/-- A byte list written at rising addresses from `a`. -/
def Memory.writeBytes : Memory → Nat → List Byte → Memory
  | m, _, [] => m
  | m, a, v :: t => Memory.writeBytes (m.write a v) (a + 1) t

/-- `MemRead(space, a, n)` (00_scope.md rule R12). -/
def Memory.readBytes (m : Memory) (a n : Nat) : List Byte := (List.range n).map fun i => m.read (a + i)

/-- Every address of a buffer is above `a`, and they rise. -/
def Memory.risingFrom : Memory → Nat → Bool
  | [], _ => true
  | (b, v) :: t, a => decide (a ≤ b) && v != unlistedByte && Memory.risingFrom t (b + 1)

/-- The canonical form: addresses strictly rising and no byte equal to `unlistedByte`. -/
def Memory.wf (m : Memory) : Bool := m.risingFrom 0

/-- `le(bytes)`, the first byte least significant (00_scope.md rule R12). -/
def le : List Byte → Nat
  | [] => 0
  | b :: t => b.toNat + 256 * le t

/-- `be(bytes)`, the first byte most significant (00_scope.md rule R12). -/
def be (bs : List Byte) : Nat := le bs.reverse

/-- `n` bytes of a number, least significant first. -/
def leBytes (v : Nat) : Nat → List Byte
  | 0 => []
  | n + 1 => BitVec.ofNat 8 v :: leBytes (v / 256) n

/-! ## Numbers -/

/-- `sext_N(v)`: the low `n` bits of `v` as a two's-complement number (00_scope.md rule R10). -/
def sext (n v : Nat) : Int :=
  if v % 2 ^ n < 2 ^ (n - 1) then (v % 2 ^ n : Nat) else (v % 2 ^ n : Nat) - (2 ^ n : Nat)

/-- `clamp(v, 0, 255)` as a byte (00_scope.md rule R11). -/
def clampByte (v : Int) : Byte := if v < 0 then 0 else if 255 < v then 255 else BitVec.ofNat 8 v.toNat

/-- A pixel from four numbers of 0 .. 255. -/
def pixelOf (r g b a : Nat) : Pixel :=
  ⟨BitVec.ofNat 8 r, BitVec.ofNat 8 g, BitVec.ofNat 8 b, BitVec.ofNat 8 a⟩

/-- A channel value of 0 .. 255, and outside that range, where no rule names the byte, a free value (log entries 21
and 22). -/
def channelByte (place : OpenByte) (v : Int) : Nat :=
  if 0 ≤ v ∧ v ≤ 255 then v.toNat else (Config.freeChannel place v).toNat

/-- The fill value `(0,0,0,0)` of `CANON` (10_state.md rule R37). -/
def fillPixel : Pixel := ⟨0, 0, 0, 0⟩

/-- Consecutive fields of a bit stream read least significant bit first from `pos`, one per width
(00_scope.md rule R13). -/
def readFields (v pos : Nat) : List Nat → List Nat
  | [] => []
  | n :: t => bitsOf v pos n :: readFields v (pos + n) t

/-! ## The registers a job reads -/

/-- The register counts as written by the host (10_state.md rule R40, log entry 3). -/
def State.markWritten (s : State) (r : JobReg) : State :=
  { s with written := if s.written.contains r then s.written else r :: s.written }

/-- An outcome that goes on with `f` where it is a next state. -/
def andThen (r : Result) (f : State → Result) : Result :=
  match r with
  | .next s => f s
  | .fault e => .fault e
  | .refused e => .refused e

/-! ## The sequencer -/

/-- `stage <- S` (00_scope.md rule R12). -/
def State.toStage (s : State) (g : Stage) : State := { s with stage := g }

/-- The write of `CMD` is taken: the register holds nothing (70_reset_and_hazards.md rule R441). -/
def State.takeCmd (s : State) : State := { s with cmd := none }

/-- The internal job state is discarded (10_state.md rule R36, log entry 8). -/
def State.dropJob (s : State) : State :=
  { s with cur := 0, canon := [], idxBuf := [], tables := [], tile := [], fault := none }

/-- A job begins: `BUSY`, `S_VALIDATE`, `CUR = 0` and an empty internal state (40_pipeline.md rule R112, 10_state.md
rule R33). -/
def State.beginJob (s : State) : State := { s.dropJob with status := .busy, stage := .validate }

/-- `FAULT` holds the error being raised (10_state.md rule R36). -/
def State.setFault (s : State) (e : ErrCode) (info : Word32) : State := { s with fault := some (e, info) }

/-- The job ends with the error that `FAULT` holds: `STATUS.STATE`, `ERR_CODE`, `ERR_INFO` and `STAGE` are written and
the internal state is discarded (60_exceptions.md rules R411, R416). -/
def State.endInError (s : State) : State :=
  match s.fault with
  | none => s
  | some (e, info) => { s.dropJob with status := .error, errCode := e, errInfo := info, stage := .error }

/-- `raise E(info)` (60_exceptions.md rule R411): the one way an instruction takes an error. -/
def State.raise (s : State) (e : ErrCode) (info : Word32) : State := (s.setFault e info).endInError

/-- The job ends without an error (40_pipeline.md rules R110, R112, R122). The count of finished jobs selects the free bytes
beyond the outputs, which a failed job leaves as they are (60_exceptions.md rule R416, log entry 5). -/
def State.finish (s : State) : State :=
  { s.dropJob with status := .done, errCode := .none, errInfo := 0, stage := .done, jobs := s.jobs + 1 }

/-- The effect of `CLEAR`, the return from an error (10_state.md rule R32, 60_exceptions.md rule R417). -/
def State.clearStatus (s : State) : State := { s with status := .idle, errCode := .none, errInfo := 0 }

/-- `CANON` and the cursor after a decode stage, which hands over to `S_REORDER` (40_pipeline.md rule R112). -/
def State.decoded (s : State) (px : List Pixel) (cursor : Nat) (lastTile : List Pixel) : State :=
  { s with canon := px, cur := BitVec.ofNat 32 cursor, tile := lastTile, stage := .reorder }

/-- `IDXBUF`, `TABLE` and the cursor after the indexed path (42_channel_codec.md rule R188). -/
def State.decodedIdx (s : State) (ix : List Byte) (tabs : List (List Pixel)) (cursor : Nat) : State :=
  { s with idxBuf := ix, tables := tabs, cur := BitVec.ofNat 32 cursor, stage := .reorder }

/-- `CANON` replaced and the next stage entered (40_pipeline.md rule R112). -/
def State.withCanon (s : State) (px : List Pixel) (g : Stage) : State := { s with canon := px, stage := g }

/-- `IDXBUF` replaced and the next stage entered (40_pipeline.md rule R112). -/
def State.withIdx (s : State) (ix : List Byte) (g : Stage) : State := { s with idxBuf := ix, stage := g }

/-- `OUT[0 ..]` and `OUT_LEN` written (20_memory.md rule R54). -/
def State.writeOut (s : State) (bs : List Byte) : State :=
  { s with out := s.out.writeBytes 0 bs, outLen := BitVec.ofNat 32 bs.length }

/-- The buffers `TBL[k]` with the given contents written from offset 0; a table without contents is left as it is. -/
def writeTables : List Memory → List (List Byte) → List Memory
  | [], _ => []
  | m, [] => m
  | m :: ms, b :: bs => m.writeBytes 0 b :: writeTables ms bs

/-- The lengths of the tables written, 0 for a table not written (10_state.md rule R30, log entry 9). -/
def tableLens : Nat → List (List Byte) → List Word32
  | 0, _ => []
  | n + 1, [] => 0 :: tableLens n []
  | n + 1, b :: bs => BitVec.ofNat 32 b.length :: tableLens n bs

/-- `TBL[k]` and `TBL_LEN[k]` written (20_memory.md rule R54). -/
def State.writeTbl (s : State) (bs : List (List Byte)) : State :=
  { s with tbl := writeTables s.tbl bs, tblLen := tableLens s.tblLen.length bs }

/-- The end of a zero-area job (40_pipeline.md rules R112, R114). -/
def State.finishEmpty (s : State) : State :=
  { s.finish with outLen := 0, tblLen := List.replicate s.tblLen.length 0 }

end Sys2Proof.Machine
end

