-- ==== Sys2Proof/Machine/Flags.lean ====
section
/-! DEFINITION. The engine's only flags: the codes of `STATUS.STATE` and `ERR_CODE` (10_state.md rule R30) and the
values of `ERR_INFO` (60_exceptions.md rule R412). -/

namespace Sys2Proof.Machine

/-- The code of `STATUS.STATE` (10_state.md rule R30). -/
def statusCode : Status → BitVec 2
  | .idle => 0 | .busy => 1 | .done => 2 | .error => 3

/-- The code of `ERR_CODE` (60_exceptions.md rule R410). -/
def errCodeOf : ErrCode → BitVec 3
  | .none => 0 | .validation => 1 | .unsupported => 2 | .truncated => 3 | .paletteRange => 4

/-- `ERR_INFO` of a ValidationError: `sub` in bits 7:0, `which` in bits 15:8 (60_exceptions.md rule R412). -/
def validationInfo (sub which : Nat) : Word32 := BitVec.ofNat 32 (sub + 256 * which)

/-- `ERR_INFO` of an UnsupportedFormatError: `sub` in bits 7:0 (60_exceptions.md rule R412). -/
def unsupportedInfo (sub : Nat) : Word32 := BitVec.ofNat 32 sub

/-- `ERR_INFO` of a DataTruncatedError: `N_IN` (60_exceptions.md rule R412). -/
def truncatedInfo (n : Nat) : Word32 := BitVec.ofNat 32 n

/-- `ERR_INFO` of a PaletteRangeError: the largest index in bits 7:0, the palette in bits 15:8 (60_exceptions.md rule
R412). -/
def paletteInfo (m k : Nat) : Word32 := BitVec.ofNat 32 (m + 256 * k)

/-- An error as a check reports it: its code and its information. -/
abbrev Err := ErrCode × Word32

/-- The error of a ValidationError check that found `sub`. -/
def validationErr (sub which : Nat) : Err := (.validation, validationInfo sub which)

/-- The error of an UnsupportedFormatError check that found `sub`. -/
def unsupportedErr (sub : Nat) : Err := (.unsupported, unsupportedInfo sub)

/-- The answer of an instruction that takes an error (60_exceptions.md rule R411). -/
def raising (e : Err) (s : State) : Result := .next (s.raise e.1 e.2)

end Sys2Proof.Machine
end

