-- ==== Sys2Proof/Machine/Tables.lean ====
section
/-! DEFINITION. The tables and the function parameters of 00_scope.md rule R8 and 93_implementation_defined.md section 2:
the defaults, `std…`, and the values a machine has, its own or the defaults (log entry 6). The spec marks the
defaults as general knowledge (93_implementation_defined.md section 3, log entry 16). -/

namespace Sys2Proof.Machine

/-! ## ETC1 -/

/-- The default `ETC1_MOD[T]` (44_etc1.md rule R246). -/
def stdEtc1Mod : List (List Int) :=
  [[2, 8, -2, -8], [5, 17, -5, -17], [9, 29, -9, -29], [13, 42, -13, -42]] ++
  [[18, 60, -18, -60], [24, 80, -24, -80], [33, 106, -33, -106], [47, 183, -47, -183]]

/-- `ETC1_MOD` (44_etc1.md rule R246). -/
def etc1Mod (c : Config) : List (List Int) := (c.tables.map Tables.etc1Mod).getD stdEtc1Mod

/-! ## BC7 -/

/-- The `t`-th of sixteen digits, written as a hexadecimal number with texel 0 first. -/
def digitOf (row t : Nat) : Nat := bitsOf row (4 * (15 - t)) 4

/-- The rows of the default `BC7_P2`, a digit a texel (45_bc7.md rule R273). -/
def stdBc7P2Rows : List Nat :=
  [0x0011001100110011, 0x0001000100010001, 0x0111011101110111, 0x0001001100110111, 0x0000000100010011, 0x0011011101111111, 0x0001001101111111, 0x0000000100110111] ++
  [0x0000000000010011, 0x0011011111111111, 0x0000000101111111, 0x0000000000010111, 0x0001011111111111, 0x0000000011111111, 0x0000111111111111, 0x0000000000001111] ++
  [0x0000100011101111, 0x0111000100000000, 0x0000000010001110, 0x0111001100010000, 0x0011000100000000, 0x0000100011001110, 0x0000000010001100, 0x0111001100110001] ++
  [0x0011000100010000, 0x0000100010001100, 0x0110011001100110, 0x0011011001101100, 0x0001011111101000, 0x0000111111110000, 0x0111000110001110, 0x0011100110011100] ++
  [0x0101010101010101, 0x0000111100001111, 0x0101101001011010, 0x0011001111001100, 0x0011110000111100, 0x0101010110101010, 0x0110100101101001, 0x0101101010100101] ++
  [0x0111001111001110, 0x0001001111001000, 0x0011001001001100, 0x0011101111011100, 0x0110100110010110, 0x0011110011000011, 0x0110011010011001, 0x0000011001100000] ++
  [0x0100111001000000, 0x0010011100100000, 0x0000001001110010, 0x0000010011100100, 0x0110110010010011, 0x0011011011001001, 0x0110001110011100, 0x0011100111000110] ++
  [0x0110110011001001, 0x0110001100111001, 0x0111111010000001, 0x0001100011100111, 0x0000111100110011, 0x0011001111110000, 0x0010001011101110, 0x0100010001110111]

/-- The rows of the default `BC7_P3`, a digit a texel (45_bc7.md rule R274). -/
def stdBc7P3Rows : List Nat :=
  [0x0011001102212222, 0x0001001122112221, 0x0000200122112211, 0x0222002200110111, 0x0000000011221122, 0x0011001100220022, 0x0022002211111111, 0x0011001122112211] ++
  [0x0000000011112222, 0x0000111111112222, 0x0000111122222222, 0x0012001200120012, 0x0112011201120112, 0x0122012201220122, 0x0011011211221222, 0x0011200122002220] ++
  [0x0001001101121122, 0x0111001120012200, 0x0000112211221122, 0x0022002200221111, 0x0111011102220222, 0x0001000122212221, 0x0000001101220122, 0x0000110022102210] ++
  [0x0122012200110000, 0x0012001211222222, 0x0110122112210110, 0x0000011012211221, 0x0022110211020022, 0x0110011020022222, 0x0011012201220011, 0x0000200022112221] ++
  [0x0000000211221222, 0x0222002200120011, 0x0011001200220222, 0x0120012001200120, 0x0000111122220000, 0x0120120120120120, 0x0120201212010120, 0x0011220011220011] ++
  [0x0011112222000011, 0x0101010122222222, 0x0000000021212121, 0x0022112200221122, 0x0022001100220011, 0x0220122102201221, 0x0101222222220101, 0x0000212121212121] ++
  [0x0101010101012222, 0x0222011102220111, 0x0002111200021112, 0x0000211221122112, 0x0222011101110222, 0x0002111211120002, 0x0110011001102222, 0x0000000021122112] ++
  [0x0110011022222222, 0x0022001100110022, 0x0022112211220022, 0x0000000000002112, 0x0002000100020001, 0x0222122202221222, 0x0101222222222222, 0x0111201122012220]

/-- `BC7_P2[part][t]` (45_bc7.md rule R273). -/
def bc7P2 (c : Config) (part t : Nat) : Nat :=
  match c.tables with
  | none => digitOf (stdBc7P2Rows.getD part 0) t
  | some x => (x.bc7P2.getD part []).getD t 0

/-- `BC7_P3[part][t]` (45_bc7.md rule R274). -/
def bc7P3 (c : Config) (part t : Nat) : Nat :=
  match c.tables with
  | none => digitOf (stdBc7P3Rows.getD part 0) t
  | some x => (x.bc7P3.getD part []).getD t 0

/-- The default `BC7_A2` (45_bc7.md rule R276). -/
def stdBc7A2 : List Nat :=
  [15, 15, 15, 15, 15, 15, 15, 15, 15, 15, 15, 15, 15, 15, 15, 15] ++
  [15, 2, 8, 2, 2, 8, 8, 15, 2, 8, 2, 2, 8, 8, 2, 2] ++
  [15, 15, 6, 8, 2, 8, 15, 15, 2, 8, 2, 2, 2, 15, 15, 6] ++
  [6, 2, 6, 8, 15, 15, 2, 2, 15, 15, 15, 15, 15, 2, 2, 15]

/-- The default `BC7_A3A` (45_bc7.md rule R276). -/
def stdBc7A3A : List Nat :=
  [3, 3, 15, 15, 8, 3, 15, 15, 8, 8, 6, 6, 6, 5, 3, 3] ++
  [3, 3, 8, 15, 3, 3, 6, 10, 5, 8, 8, 6, 8, 5, 15, 15] ++
  [8, 15, 3, 5, 6, 10, 8, 15, 15, 3, 15, 5, 15, 15, 15, 15] ++
  [3, 15, 5, 5, 5, 8, 5, 10, 5, 10, 8, 13, 15, 12, 3, 3]

/-- The default `BC7_A3B` (45_bc7.md rule R276). -/
def stdBc7A3B : List Nat :=
  [15, 8, 8, 3, 15, 15, 3, 8, 15, 15, 15, 15, 15, 15, 15, 8] ++
  [15, 8, 15, 3, 15, 8, 15, 8, 3, 15, 6, 10, 15, 15, 10, 8] ++
  [15, 3, 15, 10, 10, 8, 9, 10, 6, 15, 8, 15, 3, 6, 6, 8] ++
  [15, 3, 15, 15, 15, 15, 15, 15, 15, 15, 15, 15, 3, 15, 15, 8]

/-- The default `BC7_W2`, `BC7_W3` and `BC7_W4` (45_bc7.md rule R281). -/
def stdBc7W : Nat → List Nat
  | 2 => [0, 21, 43, 64]
  | 3 => [0, 9, 18, 27, 37, 46, 55, 64]
  | 4 => [0, 4, 9, 13, 17, 21, 26, 30, 34, 38, 43, 47, 51, 55, 60, 64]
  | _ => []

/-- The default mode table, modes 0 to 7 (45_bc7.md rule R267). -/
def stdBc7Modes : List Bc7Mode :=
  [⟨3, 4, 0, 0, 4, 0, 1, 0, 3, 0⟩, ⟨2, 6, 0, 0, 6, 0, 0, 1, 3, 0⟩,
   ⟨3, 6, 0, 0, 5, 0, 0, 0, 2, 0⟩, ⟨2, 6, 0, 0, 7, 0, 1, 0, 2, 0⟩] ++
  [⟨1, 0, 2, 1, 5, 6, 0, 0, 2, 3⟩, ⟨1, 0, 2, 0, 7, 8, 0, 0, 2, 2⟩,
   ⟨1, 0, 0, 0, 7, 7, 1, 0, 4, 0⟩, ⟨2, 6, 0, 0, 5, 5, 1, 0, 2, 0⟩]

/-- `BC7_A2` (45_bc7.md rule R276). -/
def bc7A2 (c : Config) : List Nat := (c.tables.map Tables.bc7A2).getD stdBc7A2

/-- `BC7_A3A` (45_bc7.md rule R276). -/
def bc7A3A (c : Config) : List Nat := (c.tables.map Tables.bc7A3A).getD stdBc7A3A

/-- `BC7_A3B` (45_bc7.md rule R276). -/
def bc7A3B (c : Config) : List Nat := (c.tables.map Tables.bc7A3B).getD stdBc7A3B

/-- `W(n)`, the weight table for `n`-bit indices: `BC7_W2`, `BC7_W3`, `BC7_W4` (45_bc7.md rule R281). -/
def bc7W (c : Config) (n : Nat) : List Nat :=
  match c.tables with
  | none => stdBc7W n
  | some x => if n = 2 then x.bc7W2 else if n = 3 then x.bc7W3 else if n = 4 then x.bc7W4 else []

/-- The BC7 mode table (45_bc7.md rule R267). -/
def bc7Modes (c : Config) : List Bc7Mode := (c.tables.map Tables.bc7Modes).getD stdBc7Modes

/-! ## BPTC-Float -/

/-- Mode 1 of the default `BPTCF_LAYOUT` (46_bptc_float.md rule R304). -/
def bptcfLayout1 : List LayoutItem :=
  [⟨2, 1, 2, 4, 4⟩, ⟨3, 2, 2, 4, 4⟩, ⟨4, 2, 3, 4, 4⟩, ⟨5, 0, 0, 0, 9⟩, ⟨15, 1, 0, 0, 9⟩, ⟨25, 2, 0, 0, 9⟩] ++
  [⟨35, 0, 1, 0, 4⟩, ⟨40, 1, 3, 4, 4⟩, ⟨41, 1, 2, 0, 3⟩, ⟨45, 1, 1, 0, 4⟩, ⟨50, 2, 3, 0, 0⟩, ⟨51, 1, 3, 0, 3⟩] ++
  [⟨55, 2, 1, 0, 4⟩, ⟨60, 2, 3, 1, 1⟩, ⟨61, 2, 2, 0, 3⟩, ⟨65, 0, 2, 0, 4⟩, ⟨70, 2, 3, 2, 2⟩, ⟨71, 0, 3, 0, 4⟩] ++
  [⟨76, 2, 3, 3, 3⟩]

/-- Mode 2 of the default `BPTCF_LAYOUT` (46_bptc_float.md rule R304). -/
def bptcfLayout2 : List LayoutItem :=
  [⟨2, 1, 2, 5, 5⟩, ⟨3, 1, 3, 4, 5⟩, ⟨5, 0, 0, 0, 6⟩, ⟨12, 2, 3, 0, 1⟩, ⟨14, 2, 2, 4, 4⟩, ⟨15, 1, 0, 0, 6⟩] ++
  [⟨22, 2, 2, 5, 5⟩, ⟨23, 2, 3, 2, 2⟩, ⟨24, 1, 2, 4, 4⟩, ⟨25, 2, 0, 0, 6⟩, ⟨32, 2, 3, 3, 3⟩, ⟨33, 2, 3, 5, 4⟩] ++
  [⟨35, 0, 1, 0, 5⟩, ⟨41, 1, 2, 0, 3⟩, ⟨45, 1, 1, 0, 5⟩, ⟨51, 1, 3, 0, 3⟩, ⟨55, 2, 1, 0, 5⟩, ⟨61, 2, 2, 0, 3⟩] ++
  [⟨65, 0, 2, 0, 5⟩, ⟨71, 0, 3, 0, 5⟩]

/-- Mode 3 of the default `BPTCF_LAYOUT` (46_bptc_float.md rule R304). -/
def bptcfLayout3 : List LayoutItem :=
  [⟨5, 0, 0, 0, 9⟩, ⟨15, 1, 0, 0, 9⟩, ⟨25, 2, 0, 0, 9⟩, ⟨35, 0, 1, 0, 4⟩, ⟨40, 0, 0, 10, 10⟩, ⟨41, 1, 2, 0, 3⟩] ++
  [⟨45, 1, 1, 0, 3⟩, ⟨49, 1, 0, 10, 10⟩, ⟨50, 2, 3, 0, 0⟩, ⟨51, 1, 3, 0, 3⟩, ⟨55, 2, 1, 0, 3⟩, ⟨59, 2, 0, 10, 10⟩] ++
  [⟨60, 2, 3, 1, 1⟩, ⟨61, 2, 2, 0, 3⟩, ⟨65, 0, 2, 0, 4⟩, ⟨70, 2, 3, 2, 2⟩, ⟨71, 0, 3, 0, 4⟩, ⟨76, 2, 3, 3, 3⟩]

/-- Mode 4 of the default `BPTCF_LAYOUT` (46_bptc_float.md rule R304). -/
def bptcfLayout4 : List LayoutItem :=
  [⟨5, 0, 0, 0, 9⟩, ⟨15, 1, 0, 0, 9⟩, ⟨25, 2, 0, 0, 9⟩, ⟨35, 0, 1, 0, 3⟩, ⟨39, 0, 0, 10, 10⟩, ⟨40, 1, 3, 4, 4⟩] ++
  [⟨41, 1, 2, 0, 3⟩, ⟨45, 1, 1, 0, 4⟩, ⟨50, 1, 0, 10, 10⟩, ⟨51, 1, 3, 0, 3⟩, ⟨55, 2, 1, 0, 3⟩, ⟨59, 2, 0, 10, 10⟩] ++
  [⟨60, 2, 3, 1, 1⟩, ⟨61, 2, 2, 0, 3⟩, ⟨65, 0, 2, 0, 3⟩, ⟨69, 2, 3, 0, 0⟩, ⟨70, 2, 3, 2, 2⟩, ⟨71, 0, 3, 0, 3⟩] ++
  [⟨75, 1, 2, 4, 4⟩, ⟨76, 2, 3, 3, 3⟩]

/-- Mode 5 of the default `BPTCF_LAYOUT` (46_bptc_float.md rule R304). -/
def bptcfLayout5 : List LayoutItem :=
  [⟨5, 0, 0, 0, 9⟩, ⟨15, 1, 0, 0, 9⟩, ⟨25, 2, 0, 0, 9⟩, ⟨35, 0, 1, 0, 3⟩, ⟨39, 0, 0, 10, 10⟩, ⟨40, 2, 2, 4, 4⟩] ++
  [⟨41, 1, 2, 0, 3⟩, ⟨45, 1, 1, 0, 3⟩, ⟨49, 1, 0, 10, 10⟩, ⟨50, 2, 3, 0, 0⟩, ⟨51, 1, 3, 0, 3⟩, ⟨55, 2, 1, 0, 4⟩] ++
  [⟨60, 2, 0, 10, 10⟩, ⟨61, 2, 2, 0, 3⟩, ⟨65, 0, 2, 0, 3⟩, ⟨69, 2, 3, 1, 2⟩, ⟨71, 0, 3, 0, 3⟩, ⟨75, 2, 3, 4, 3⟩]

/-- Mode 6 of the default `BPTCF_LAYOUT` (46_bptc_float.md rule R304). -/
def bptcfLayout6 : List LayoutItem :=
  [⟨5, 0, 0, 0, 8⟩, ⟨14, 2, 2, 4, 4⟩, ⟨15, 1, 0, 0, 8⟩, ⟨24, 1, 2, 4, 4⟩, ⟨25, 2, 0, 0, 8⟩, ⟨34, 2, 3, 4, 4⟩] ++
  [⟨35, 0, 1, 0, 4⟩, ⟨40, 1, 3, 4, 4⟩, ⟨41, 1, 2, 0, 3⟩, ⟨45, 1, 1, 0, 4⟩, ⟨50, 2, 3, 0, 0⟩, ⟨51, 1, 3, 0, 3⟩] ++
  [⟨55, 2, 1, 0, 4⟩, ⟨60, 2, 3, 1, 1⟩, ⟨61, 2, 2, 0, 3⟩, ⟨65, 0, 2, 0, 4⟩, ⟨70, 2, 3, 2, 2⟩, ⟨71, 0, 3, 0, 4⟩] ++
  [⟨76, 2, 3, 3, 3⟩]

/-- Mode 7 of the default `BPTCF_LAYOUT` (46_bptc_float.md rule R304). -/
def bptcfLayout7 : List LayoutItem :=
  [⟨5, 0, 0, 0, 7⟩, ⟨13, 1, 3, 4, 4⟩, ⟨14, 2, 2, 4, 4⟩, ⟨15, 1, 0, 0, 7⟩, ⟨23, 2, 3, 2, 2⟩, ⟨24, 1, 2, 4, 4⟩] ++
  [⟨25, 2, 0, 0, 7⟩, ⟨33, 2, 3, 3, 4⟩, ⟨35, 0, 1, 0, 5⟩, ⟨41, 1, 2, 0, 3⟩, ⟨45, 1, 1, 0, 4⟩, ⟨50, 2, 3, 0, 0⟩] ++
  [⟨51, 1, 3, 0, 3⟩, ⟨55, 2, 1, 0, 4⟩, ⟨60, 2, 3, 1, 1⟩, ⟨61, 2, 2, 0, 3⟩, ⟨65, 0, 2, 0, 5⟩, ⟨71, 0, 3, 0, 5⟩]

/-- Mode 8 of the default `BPTCF_LAYOUT` (46_bptc_float.md rule R304). -/
def bptcfLayout8 : List LayoutItem :=
  [⟨5, 0, 0, 0, 7⟩, ⟨13, 2, 3, 0, 0⟩, ⟨14, 2, 2, 4, 4⟩, ⟨15, 1, 0, 0, 7⟩, ⟨23, 1, 2, 5, 4⟩, ⟨25, 2, 0, 0, 7⟩] ++
  [⟨33, 1, 3, 5, 5⟩, ⟨34, 2, 3, 4, 4⟩, ⟨35, 0, 1, 0, 4⟩, ⟨40, 1, 3, 4, 4⟩, ⟨41, 1, 2, 0, 3⟩, ⟨45, 1, 1, 0, 5⟩] ++
  [⟨51, 1, 3, 0, 3⟩, ⟨55, 2, 1, 0, 4⟩, ⟨60, 2, 3, 1, 1⟩, ⟨61, 2, 2, 0, 3⟩, ⟨65, 0, 2, 0, 4⟩, ⟨70, 2, 3, 2, 2⟩] ++
  [⟨71, 0, 3, 0, 4⟩, ⟨76, 2, 3, 3, 3⟩]

/-- Mode 9 of the default `BPTCF_LAYOUT` (46_bptc_float.md rule R304). -/
def bptcfLayout9 : List LayoutItem :=
  [⟨5, 0, 0, 0, 7⟩, ⟨13, 2, 3, 1, 1⟩, ⟨14, 2, 2, 4, 4⟩, ⟨15, 1, 0, 0, 7⟩, ⟨23, 2, 2, 5, 5⟩, ⟨24, 1, 2, 4, 4⟩] ++
  [⟨25, 2, 0, 0, 7⟩, ⟨33, 2, 3, 5, 4⟩, ⟨35, 0, 1, 0, 4⟩, ⟨40, 1, 3, 4, 4⟩, ⟨41, 1, 2, 0, 3⟩, ⟨45, 1, 1, 0, 4⟩] ++
  [⟨50, 2, 3, 0, 0⟩, ⟨51, 1, 3, 0, 3⟩, ⟨55, 2, 1, 0, 5⟩, ⟨61, 2, 2, 0, 3⟩, ⟨65, 0, 2, 0, 4⟩, ⟨70, 2, 3, 2, 2⟩] ++
  [⟨71, 0, 3, 0, 4⟩, ⟨76, 2, 3, 3, 3⟩]

/-- Mode 10 of the default `BPTCF_LAYOUT` (46_bptc_float.md rule R304). -/
def bptcfLayout10 : List LayoutItem :=
  [⟨5, 0, 0, 0, 5⟩, ⟨11, 1, 3, 4, 4⟩, ⟨12, 2, 3, 0, 1⟩, ⟨14, 2, 2, 4, 4⟩, ⟨15, 1, 0, 0, 5⟩, ⟨21, 1, 2, 5, 5⟩] ++
  [⟨22, 2, 2, 5, 5⟩, ⟨23, 2, 3, 2, 2⟩, ⟨24, 1, 2, 4, 4⟩, ⟨25, 2, 0, 0, 5⟩, ⟨31, 1, 3, 5, 5⟩, ⟨32, 2, 3, 3, 3⟩] ++
  [⟨33, 2, 3, 5, 4⟩, ⟨35, 0, 1, 0, 5⟩, ⟨41, 1, 2, 0, 3⟩, ⟨45, 1, 1, 0, 5⟩, ⟨51, 1, 3, 0, 3⟩, ⟨55, 2, 1, 0, 5⟩] ++
  [⟨61, 2, 2, 0, 3⟩, ⟨65, 0, 2, 0, 5⟩, ⟨71, 0, 3, 0, 5⟩]

/-- Mode 11 of the default `BPTCF_LAYOUT` (46_bptc_float.md rule R304). -/
def bptcfLayout11 : List LayoutItem :=
  [⟨5, 0, 0, 0, 9⟩, ⟨15, 1, 0, 0, 9⟩, ⟨25, 2, 0, 0, 9⟩, ⟨35, 0, 1, 0, 9⟩, ⟨45, 1, 1, 0, 9⟩, ⟨55, 2, 1, 0, 9⟩]

/-- Mode 12 of the default `BPTCF_LAYOUT` (46_bptc_float.md rule R304). -/
def bptcfLayout12 : List LayoutItem :=
  [⟨5, 0, 0, 0, 9⟩, ⟨15, 1, 0, 0, 9⟩, ⟨25, 2, 0, 0, 9⟩, ⟨35, 0, 1, 0, 8⟩, ⟨44, 0, 0, 10, 10⟩, ⟨45, 1, 1, 0, 8⟩] ++
  [⟨54, 1, 0, 10, 10⟩, ⟨55, 2, 1, 0, 8⟩, ⟨64, 2, 0, 10, 10⟩]

/-- Mode 13 of the default `BPTCF_LAYOUT` (46_bptc_float.md rule R304). -/
def bptcfLayout13 : List LayoutItem :=
  [⟨5, 0, 0, 0, 9⟩, ⟨15, 1, 0, 0, 9⟩, ⟨25, 2, 0, 0, 9⟩, ⟨35, 0, 1, 0, 7⟩, ⟨43, 0, 0, 11, 10⟩, ⟨45, 1, 1, 0, 7⟩] ++
  [⟨53, 1, 0, 11, 10⟩, ⟨55, 2, 1, 0, 7⟩, ⟨63, 2, 0, 11, 10⟩]

/-- Mode 14 of the default `BPTCF_LAYOUT` (46_bptc_float.md rule R304). -/
def bptcfLayout14 : List LayoutItem :=
  [⟨5, 0, 0, 0, 9⟩, ⟨15, 1, 0, 0, 9⟩, ⟨25, 2, 0, 0, 9⟩, ⟨35, 0, 1, 0, 3⟩, ⟨39, 0, 0, 15, 10⟩, ⟨45, 1, 1, 0, 3⟩] ++
  [⟨49, 1, 0, 15, 10⟩, ⟨55, 2, 1, 0, 3⟩, ⟨59, 2, 0, 15, 10⟩]

/-- The default fourteen modes (46_bptc_float.md rule R302). -/
def stdBptcfModes : List BptcfMode :=
  [⟨0, 10, 5, 5, 5, true, 2, bptcfLayout1⟩,
   ⟨1, 7, 6, 6, 6, true, 2, bptcfLayout2⟩,
   ⟨2, 11, 5, 4, 4, true, 2, bptcfLayout3⟩,
   ⟨6, 11, 4, 5, 4, true, 2, bptcfLayout4⟩] ++
  [⟨10, 11, 4, 4, 5, true, 2, bptcfLayout5⟩,
   ⟨14, 9, 5, 5, 5, true, 2, bptcfLayout6⟩,
   ⟨18, 8, 6, 5, 5, true, 2, bptcfLayout7⟩,
   ⟨22, 8, 5, 6, 5, true, 2, bptcfLayout8⟩] ++
  [⟨26, 8, 5, 5, 6, true, 2, bptcfLayout9⟩,
   ⟨30, 6, 6, 6, 6, false, 2, bptcfLayout10⟩,
   ⟨3, 10, 10, 10, 10, false, 1, bptcfLayout11⟩,
   ⟨7, 11, 9, 9, 9, true, 1, bptcfLayout12⟩] ++
  [⟨11, 12, 8, 8, 8, true, 1, bptcfLayout13⟩,
   ⟨15, 16, 4, 4, 4, true, 1, bptcfLayout14⟩]

/-- The BPTC-Float mode table with `BPTCF_LAYOUT` (46_bptc_float.md rules R302, R304). -/
def bptcfModes (c : Config) : List BptcfMode := (c.tables.map Tables.bptcfModes).getD stdBptcfModes

/-- The default `HALF_TO_BYTE(h)`: the half-float pattern clamped to 0 .. 1, times 255, rounded half up (46_bptc_float.md rule R318). -/
def stdHalfToByte (h : Nat) : Nat :=
  if bitsOf h 15 1 = 1 then 0
  else if 0x3C00 ≤ bitsOf h 0 15 then 255
  else
    let ex := bitsOf h 10 5
    let frac := bitsOf h 0 10
    let m := if ex = 0 then frac else 1024 + frac
    let sh := if ex = 0 then 24 else 25 - ex
    (m * 255 + 2 ^ (sh - 1)) / 2 ^ sh

/-- `HALF_TO_BYTE(h)` (46_bptc_float.md rule R318); a value above 255 is no byte and gives a free value (log entry 22). -/
def halfToByte (c : Config) (h : Nat) : Nat :=
  match c.tables with
  | none => stdHalfToByte h
  | some x => channelByte .halfToByte (x.halfToByte.getD h 0)

/-! ## PVRTC -/

/-- The default modulation table of PVRT4 at `MM = 0` (47_pvrtc.md rule R339). -/
def stdPvrtMod0 : List Nat := [0, 3, 5, 8]

/-- The default modulation table of PVRT4 at `MM = 1` (47_pvrtc.md rule R339). -/
def stdPvrtMod1 : List Nat := [0, 4, 4, 8]

/-- The default punch column of the modulation table (47_pvrtc.md rule R339). -/
def stdPvrtPunch : List Bool := [false, false, true, false]

/-- The default `REP`, the weights in eighths of a stored code of PVRT2 (47_pvrtc.md rule R341). -/
def stdPvrtRep : List Nat := [0, 3, 5, 8]

/-- The modulation table of PVRT4 at `MM = 0` (47_pvrtc.md rule R339). DESIGN CHOICE, log entry 6: a parameter of its own
beside `REP`, whose default is the same. -/
def pvrtMod0 (c : Config) : List Nat := (c.tables.map Tables.pvrtMod0).getD stdPvrtMod0

/-- The modulation table of PVRT4 at `MM = 1` (47_pvrtc.md rule R339). -/
def pvrtMod1 (c : Config) : List Nat := (c.tables.map Tables.pvrtMod1).getD stdPvrtMod1

/-- The punch column of the modulation table (47_pvrtc.md rule R339). DESIGN CHOICE, log entry 6: it is a parameter with
the rest of the table. -/
def pvrtPunch (c : Config) : List Bool := (c.tables.map Tables.pvrtPunch).getD stdPvrtPunch

/-- `REP` (47_pvrtc.md rule R341). -/
def pvrtRep (c : Config) : List Nat := (c.tables.map Tables.pvrtRep).getD stdPvrtRep

/-- The default bilinear factors of the words `P`, `Q`, `R`, `S` at the place `(u, v)` of a cell of words `ww` pixels wide
(47_pvrtc.md rule R338). -/
def stdPvrtFactors (ww u v : Nat) : List Nat := [(4 - v) * (ww - u), (4 - v) * u, v * (ww - u), v * u]

/-- The bilinear factors of the words `P`, `Q`, `R`, `S` (47_pvrtc.md rule R338). -/
def pvrtFactors (c : Config) (ww u v : Nat) : List Nat :=
  match c.tables with
  | none => stdPvrtFactors ww u v
  | some x => (if ww = 8 then x.pvrtFactors8 else x.pvrtFactors4).getD (ww * v + u) []

/-! ## Reordering, filter, luminance -/

/-- The default `TILE3DS_ORDER` (48_reorder.md rule R369). -/
def stdTile3dsOrder : List Nat :=
  [0, 1, 8, 9, 2, 3, 10, 11] ++
  [16, 17, 24, 25, 18, 19, 26, 27] ++
  [4, 5, 12, 13, 6, 7, 14, 15] ++
  [20, 21, 28, 29, 22, 23, 30, 31] ++
  [32, 33, 40, 41, 34, 35, 42, 43] ++
  [48, 49, 56, 57, 50, 51, 58, 59] ++
  [36, 37, 44, 45, 38, 39, 46, 47] ++
  [52, 53, 60, 61, 54, 55, 62, 63]

/-- `TILE3DS_ORDER` (48_reorder.md rule R369). -/
def tile3dsOrder (c : Config) : List Nat := (c.tables.map Tables.tile3dsOrder).getD stdTile3dsOrder

/-- The default `SWITCH_BLOCK_HEIGHT(h)`: the smallest power of two at least `ceil(h / 8)`, at most 16 (48_reorder.md rule R383). -/
def stdSwitchBlockHeight (h : Nat) : Nat :=
  let g := (h + 7) / 8
  if g ≤ 1 then 1 else if g ≤ 2 then 2 else if g ≤ 4 then 4 else if g ≤ 8 then 8 else 16

/-- `SWITCH_BLOCK_HEIGHT(h)` (48_reorder.md rule R383). -/
def switchBlockHeight (c : Config) (h : Nat) : Nat :=
  match c.tables with
  | none => stdSwitchBlockHeight h
  | some x => x.switchBlockHeight.getD h 1

/-- The default `BAYER8[a]`, `a` the `x mod 8` index (49_filter.md rule R397). -/
def stdBayer8 : List (List Nat) :=
  [[1, 49, 13, 61, 4, 52, 16, 64], [33, 17, 45, 29, 36, 20, 48, 32]] ++
  [[9, 57, 5, 53, 12, 60, 8, 56], [41, 25, 37, 21, 44, 28, 40, 24]] ++
  [[3, 51, 15, 63, 2, 50, 14, 62], [35, 19, 47, 31, 34, 18, 46, 30]] ++
  [[11, 59, 7, 55, 10, 58, 6, 54], [43, 27, 39, 23, 42, 26, 38, 22]]

/-- `BAYER8` (49_filter.md rule R397). -/
def bayer8 (c : Config) : List (List Nat) := (c.tables.map Tables.bayer8).getD stdBayer8

/-- The default `LUMA_ENCODE(R, G, B)` (42_channel_codec.md rule R178). -/
def stdLumaEncode (r g b : Nat) : Nat := (r + g + b) / 3

/-- `LUMA_ENCODE(R, G, B)` (42_channel_codec.md rule R178); a value above 255 is no 8-bit luminance and gives a free value
(log entry 22). -/
def lumaEncode (c : Config) (r g b : Nat) : Nat :=
  match c.tables with
  | none => stdLumaEncode r g b
  | some x => channelByte .luma (x.lumaEncode.getD (65536 * r + 256 * g + b) 0)

end Sys2Proof.Machine
end

