-- ==== Sys2Proof/Machine/Operands.lean ====
section
/-! DEFINITION. The operands of a job: the picture's geometry (00_scope.md rule R15), the bytes a job needs
(20_memory.md rules R51 to R53), which path a job takes (40_pipeline.md rule R115), and raw samples in a buffer
(42_channel_codec.md rules R163 to R168, R175, R177). -/

namespace Sys2Proof.Machine

/-! ## Geometry -/

/-- `W` and `H` (00_scope.md rule R15); a legal job has both in 0 .. 16383. -/
def State.w (s : State) : Nat := s.width.toNat
def State.h (s : State) : Nat := s.height.toNat

/-- `W*H`. -/
def State.area (s : State) : Nat := s.w * s.h

/-- `ceil(a / b)`. -/
def ceilDiv (a b : Nat) : Nat := (a + b - 1) / b

/-- The width and height in pixels of one block's tile (20_memory.md rule R52). -/
def tileW : Special → Nat
  | .etc1 => 8 | .etc1a4 => 8 | .pvrt2 => 8
  | .dxt1 => 4 | .dxt1alt => 4 | .dxt1psp => 4 | .dxt3 => 4 | .dxt3psp => 4 | .dxt5 => 4 | .dxt5psp => 4
  | .rgtc1 => 4 | .rgtc1s => 4 | .rgtc2 => 4 | .rgtc2s => 4 | .bptc => 4 | .bptcf => 4 | .bptcsf => 4 | .pvrt4 => 4

def tileH : Special → Nat
  | .etc1 => 8 | .etc1a4 => 8
  | .dxt1 => 4 | .dxt1alt => 4 | .dxt1psp => 4 | .dxt3 => 4 | .dxt3psp => 4 | .dxt5 => 4 | .dxt5psp => 4
  | .rgtc1 => 4 | .rgtc1s => 4 | .rgtc2 => 4 | .rgtc2s => 4 | .bptc => 4 | .bptcf => 4 | .bptcsf => 4
  | .pvrt2 => 4 | .pvrt4 => 4

/-- `block_bytes` (20_memory.md rule R52). -/
def blockBytes : Special → Nat
  | .etc1 => 32 | .etc1a4 => 64
  | .dxt1 => 8 | .dxt1alt => 8 | .dxt1psp => 8 | .rgtc1 => 8 | .rgtc1s => 8 | .pvrt2 => 8 | .pvrt4 => 8
  | .dxt3 => 16 | .dxt3psp => 16 | .dxt5 => 16 | .dxt5psp => 16 | .rgtc2 => 16 | .rgtc2s => 16
  | .bptc => 16 | .bptcf => 16 | .bptcsf => 16

/-- PVRTC decodes the whole picture at once (47_pvrtc.md rule R330). -/
def isPvrt (k : Special) : Bool := k == .pvrt2 || k == .pvrt4

/-- `blocks_x` (20_memory.md rule R52). -/
def blocksX (k : Special) (w : Nat) : Nat := if isPvrt k then w / tileW k else ceilDiv w (tileW k)

/-- `blocks_y` (20_memory.md rule R52). -/
def blocksY (k : Special) (h : Nat) : Nat := if isPvrt k then h / tileH k else ceilDiv h (tileH k)

/-- `N_IN` of a special kind (20_memory.md rule R52). -/
def specialBytes (k : Special) (w h : Nat) : Nat := blocksX k w * blocksY k h * blockBytes k

/-- `ceil(n*bpp/8)`, the bytes of `n` samples (20_memory.md rules R51, R54). -/
def sampleBytes (n bits : Nat) : Nat := (n * bits + 7) / 8

/-! ## Which path a job takes (40_pipeline.md rule R115) -/

/-- The special kind of the input, none for a plain or indexed job. -/
def State.special (s : State) : Option Special := specialOf (descSpecial s.inFmt)

/-- The input has no special kind and the Indexed layout (42_channel_codec.md rule R186). -/
def State.isIndexed (s : State) : Bool := descSpecial s.inFmt == 0 && descCh s.inFmt == 14

/-- The input bpp-class. -/
def State.inBpp (s : State) : Bpp := bppOf (descBpp s.inFmt)

/-- `N_IN`, the bytes of `IN` a job needs (20_memory.md rules R51, R52). -/
def State.needed (s : State) : Nat :=
  match s.special with
  | some k => specialBytes k s.w s.h
  | none => sampleBytes s.area s.inBpp.bits

/-- `entries(k)` (42_channel_codec.md rule R187) for a palette of `len` bytes. -/
def entriesOf (len : Word32) (palBits inBits : Nat) : Nat := min (len.toNat / (palBits / 8)) (2 ^ inBits)

/-! ## Raw samples -/

/-- The two nibbles of a byte exchanged (42_channel_codec.md rule R167). -/
def swapNibbles (v : Nat) : Nat := v % 16 * 16 + v / 16

/-- The 4-bit quirk is active for a stream of byte order `e` (42_channel_codec.md rule R167). -/
def nibbleSwapped (c : Config) (e : Endian) : Bool := c.nibbleSwapOnNative && e == c.nativeEnd

/-- `read_sample(space, i, bpp, e)` (42_channel_codec.md rules R163 to R167). -/
def readSample (c : Config) (m : Memory) (i bits : Nat) (e : Endian) : Nat :=
  if bits = 4 then
    let v := (m.read (i / 2)).toNat
    let v' := if nibbleSwapped c e then swapNibbles v else v
    if i % 2 = 0 then v' / 16 else v' % 16
  else
    let bs := m.readBytes (i * (bits / 8)) (bits / 8)
    match e with
    | .little => le bs
    | .big => be bs

/-- Samples 0 .. n-1 of a buffer, through the cursor (42_channel_codec.md rule R163). -/
def readSamples (c : Config) (m : Memory) (n bits : Nat) (e : Endian) : List Nat :=
  (List.range n).map fun i => readSample c m i bits e

/-- The byte of two 4-bit samples, the first in the high nibble, before the swap (42_channel_codec.md rule R177). -/
def nibbleByte (swap : Bool) (hi lo : Nat) : Byte :=
  let v := hi % 16 * 16 + lo % 16
  BitVec.ofNat 8 (if swap then swapNibbles v else v)

/-- 4-bit samples in pairs; an unused last nibble is 0 (42_channel_codec.md rule R177). -/
def packNibbles (swap : Bool) : List Nat → List Byte
  | [] => []
  | [a] => [nibbleByte swap a 0]
  | a :: b :: t => nibbleByte swap a b :: packNibbles swap t

/-- The bytes of one sample of 8 bits or more (42_channel_codec.md rule R175). -/
def sampleToBytes (bits : Nat) (e : Endian) (raw : Nat) : List Byte :=
  match e with
  | .little => leBytes raw (bits / 8)
  | .big => (leBytes raw (bits / 8)).reverse

/-- `write_sample` of a list of samples, as the bytes of the stream (42_channel_codec.md rules R175, R177). -/
def writeSamples (c : Config) (bits : Nat) (e : Endian) (raws : List Nat) : List Byte :=
  if bits = 4 then packNibbles (nibbleSwapped c e) raws else raws.flatMap (sampleToBytes bits e)

end Sys2Proof.Machine
end

