-- ==== Sys2Proof/Machine/Reorder.lean ====
section
/-! DEFINITION. The pixel reordering transforms (48_reorder.md): the five maps, the geometry they need, and the
operations `REORD.<kind>` of stage `S_REORDER`. -/

namespace Sys2Proof.Machine

/-! ## The maps -/

/-- tiled-3DS-8x8 (48_reorder.md rule R368). -/
def mapTile3ds (c : Config) (i w : Nat) : Nat :=
  let tile := i / 64
  let p := (tile3dsOrder c).getD (i % 64) 0
  let tpr := w / 8
  (tile / tpr * 8 + p / 8) * w + (tile % tpr * 8 + p % 8)

/-- The number made of bits 0, 2, 4, ... of `i`, for `fuel >= i` (48_reorder.md rule R372). -/
def evenBits : Nat → Nat → Nat
  | 0, _ => 0
  | fuel + 1, i => if i = 0 then 0 else i % 2 + 2 * evenBits fuel (i / 4)

/-- `even(i)` and `odd(i)` (48_reorder.md rule R372). -/
def evenOf (i : Nat) : Nat := evenBits i i
def oddOf (i : Nat) : Nat := evenOf (i / 2)

/-- morton-swizzle (48_reorder.md rule R372). -/
def mapMorton (i w h : Nat) : Option Nat :=
  let mn := min w h
  let k := Nat.log2 mn
  let hi := i / 2 ^ (2 * k) * 2 ^ (2 * k)
  if h < w then
    let j := hi ||| ((oddOf i &&& (mn - 1)) * 2 ^ k) ||| (evenOf i &&& (mn - 1))
    let x := j / h
    let y := j % h
    if w ≤ x ∨ h ≤ y then none else some (y * w + x)
  else
    let j := hi ||| ((evenOf i &&& (mn - 1)) * 2 ^ k) ||| (oddOf i &&& (mn - 1))
    let x := j % w
    let y := j / w
    if w ≤ x ∨ h ≤ y then none else some (y * w + x)

/-- PSP-swizzle (48_reorder.md rule R380). -/
def mapPsp (i w eb : Nat) : Nat :=
  let te := 128 / eb
  let tile := i / (8 * te)
  let r := i % (8 * te)
  let tpr := w / te
  (tile / tpr * 8 + r / te) * w + (tile % tpr * te + r % te)

/-- `addr(x, y)`, the byte address in the stream of an element under the Switch-swizzle, for elements of `eb` bits in
a `w` by `h` grid (48_reorder.md rule R383). -/
def switchAddr (c : Config) (x y w h eb : Nat) : Nat :=
  let bytes := eb / 8
  let bh := switchBlockHeight c h
  let gw := w * bytes / 64
  let xb := x * bytes
  y / (8 * bh) * (512 * bh * gw) + xb / 64 * (512 * bh) + y % (8 * bh) / 8 * 512 +
    xb % 64 / 32 * 256 + y % 8 / 2 * 64 + xb % 32 / 16 * 32 + y % 2 * 16 + xb % 16

/-- Switch-swizzle: the position whose `addr` is `i*B`, read off the fields of the byte address (48_reorder.md rule
R383, log entry 18). -/
def mapSwitch (c : Config) (i w h eb : Nat) : Nat :=
  let bytes := eb / 8
  let bh := switchBlockHeight c h
  let gw := w * bytes / 64
  let a := i * bytes
  let row := a / (512 * bh * gw)
  let inRow := a % (512 * bh * gw)
  let col := inRow / (512 * bh)
  let inBlock := inRow % (512 * bh)
  let gob := inBlock / 512
  let o := inBlock % 512
  let xb := col * 64 + o / 256 * 32 + o / 32 % 2 * 16 + o % 16
  let y := row * (8 * bh) + gob * 8 + o / 64 % 4 * 2 + o / 16 % 2
  y * w + xb / bytes

/-- `REORD.<kind>.map(i, w, h, eb)` (48_reorder.md rule R365). -/
def reordMap (c : Config) (k : Reorder) (i w h eb : Nat) : Option Nat :=
  match k with
  | .linear => some i
  | .tile3ds => some (mapTile3ds c i w)
  | .morton => mapMorton i w h
  | .psp => some (mapPsp i w eb)
  | .switch => some (mapSwitch c i w h eb)

/-! ## Geometry conditions -/

/-- The PSP geometry condition (48_reorder.md rule R381). -/
def pspGeometry (w h eb : Nat) : Bool :=
  eb != 0 && 128 % eb == 0 && w % (128 / eb) == 0 && h % 8 == 0

/-- The Switch geometry condition (48_reorder.md rule R384). -/
def switchGeometry (c : Config) (w h eb : Nat) : Bool :=
  (eb == 8 || eb == 16 || eb == 32 || eb == 64 || eb == 128) && w * (eb / 8) % 64 == 0 &&
    h % (8 * switchBlockHeight c h) == 0

/-- What `check_supported` finds wrong with a reordering of a `w` by `h` grid of elements of `eb` bits: sub-causes 4, 5
and 8 to 11 of 41_descriptor_validator.md rule R151. -/
def reordSub (c : Config) (k : Reorder) (w h eb : Nat) : Option Nat :=
  match k with
  | .linear => none
  | .morton => none
  | .tile3ds => if w * h ≠ 0 ∧ (w % 8 ≠ 0 ∨ h % 8 ≠ 0) then some 9 else none
  | .psp =>
    if c.implReorderPsp = false then some 4
    else if eb = 24 then some 8
    else if w * h ≠ 0 ∧ pspGeometry w h eb = false then some 10 else none
  | .switch =>
    if c.implReorderSwitch = false then some 5
    else if eb = 4 ∨ eb = 24 then some 8
    else if w * h ≠ 0 ∧ switchGeometry c w h eb = false then some 11 else none

/-! ## Applying a map -/

/-- `reorder(SRC, w, h, eb, fill)` (48_reorder.md rule R365): a later element overwrites an earlier one. -/
def reorderList {α : Type} (c : Config) (k : Reorder) (src : List α) (w h eb : Nat) (fill : α) : List α :=
  (List.range (w * h)).foldl
    (fun dst i =>
      match reordMap c k i w h eb with
      | none => dst
      | some d => if d < w * h then dst.set d (src.getD i fill) else dst)
    (List.replicate (w * h) fill)

/-- Stage `S_REORDER` for a kind: nothing for a special kind (40_pipeline.md rule R118), else the map over `IDXBUF` or
`CANON` with the input bpp-class as element size (48_reorder.md rule R366). Geometry that `VALIDATE` refuses raises
`VALIDATE`'s error (log entry 11). -/
def reordStage (k : Reorder) (s : State) : Result :=
  if descSpecial s.inFmt ≠ 0 then .next (s.toStage .filter)
  else
    match reordSub s.cfg k s.w s.h s.inBpp.bits with
    | some sub => raising (unsupportedErr sub) s
    | none =>
      if s.isIndexed then .next (s.withIdx (reorderList s.cfg k s.idxBuf s.w s.h s.inBpp.bits 0) .filter)
      else .next (s.withCanon (reorderList s.cfg k s.canon s.w s.h s.inBpp.bits fillPixel) .filter)

/-- `REORD.LINEAR`: the buffer stays as it is (48_reorder.md rule R367). -/
def execReordLinear (s : State) : Result := .next (s.toStage .filter)

/-- `REORD.TILE3DS` (48_reorder.md rule R368). -/
def execReordTile3ds (s : State) : Result := reordStage .tile3ds s

/-- `REORD.MORTON` (48_reorder.md rule R372). -/
def execReordMorton (s : State) : Result := reordStage .morton s

/-- `REORD.PSP` (48_reorder.md rule R380). -/
def execReordPsp (s : State) : Result := reordStage .psp s

/-- `REORD.SWITCH` (48_reorder.md rule R383). -/
def execReordSwitch (s : State) : Result := reordStage .switch s

end Sys2Proof.Machine
end

