-- ==== Sys2Proof/WellFormed.lean ====
section
/-! DEFINITION. Well-formedness: the operand values an instruction's descriptor may legally hold
(41_descriptor_validator.md rules R142 to R146, R151 sub-causes 6 and 7). -/

namespace Sys2Proof

/-- Every width field is 0 .. 16 (41_descriptor_validator.md rule R143). -/
def PlainFmt.widthsLegal (f : PlainFmt) : Bool :=
  decide (f.rbits ≤ 16) && decide (f.gbits ≤ 16) && decide (f.bbits ≤ 16) && decide (f.abits ≤ 16)

/-- Every named channel but `X` is at least 1 bit wide (41_descriptor_validator.md rule R145). -/
def PlainFmt.namedWide (lay : Layout) (f : PlainFmt) : Bool :=
  lay.channels.all fun c => c == .x || decide (0 < f.width c)

/-- The named widths fit the bpp-class (41_descriptor_validator.md rule R146). -/
def PlainFmt.sumFits (lay : Layout) (f : PlainFmt) : Bool :=
  decide ((lay.channels.map f.width).sum ≤ f.bpp.bits)

/-- A plain format that passes the word checks (41_descriptor_validator.md rules R142 to R146). -/
def PlainFmt.wf (lay : Layout) (f : PlainFmt) : Bool :=
  f.bpp.legal && f.widthsLegal && f.namedWide lay && f.sumFits lay

/-- An index has 4 or 8 bits (41_descriptor_validator.md rule R144). -/
def Bpp.indexable (b : Bpp) : Bool := b == .b4 || b == .b8

/-- A block codec's tiles are not placed by the 8 by 8 pixel tiling (41_descriptor_validator.md rule R151 sub 6). -/
def Reorder.forBlocks (ro : Reorder) : Bool := ro != .tile3ds

/-- PVRTC takes no reordering (41_descriptor_validator.md rule R151 sub 7). -/
def Reorder.forWords (ro : Reorder) : Bool := ro == .linear

/-- The instructions whose operands are legal. -/
def Instr.wf : Instr → Bool
  | .start => true
  | .clear => true
  | .validate => true
  | .chdecRgb f => f.wf .rgb
  | .chdecRgba f => f.wf .rgba
  | .chdecBgra f => f.wf .bgra
  | .chdecArgb f => f.wf .argb
  | .chdecAbgr f => f.wf .abgr
  | .chdecRgbx f => f.wf .rgbx
  | .chdecBgrx f => f.wf .bgrx
  | .chdecXrgb f => f.wf .xrgb
  | .chdecXbgr f => f.wf .xbgr
  | .chdecL f => f.wf .l
  | .chdecA f => f.wf .a
  | .chdecLa f => f.wf .la
  | .chdecAl f => f.wf .al
  | .idx bpp => bpp.indexable
  | .chencRgb f => f.wf .rgb
  | .chencRgba f => f.wf .rgba
  | .chencBgra f => f.wf .bgra
  | .chencArgb f => f.wf .argb
  | .chencAbgr f => f.wf .abgr
  | .chencRgbx f => f.wf .rgbx
  | .chencBgrx f => f.wf .bgrx
  | .chencXrgb f => f.wf .xrgb
  | .chencXbgr f => f.wf .xbgr
  | .chencL f => f.wf .l
  | .chencA f => f.wf .a
  | .chencLa f => f.wf .la
  | .chencAl f => f.wf .al
  | .blkEtc1 ro => ro.forBlocks
  | .blkEtc1a4 ro => ro.forBlocks
  | .blkDxt1 ro => ro.forBlocks
  | .blkDxt1alt ro => ro.forBlocks
  | .blkDxt1psp ro => ro.forBlocks
  | .blkDxt3 ro => ro.forBlocks
  | .blkDxt3psp ro => ro.forBlocks
  | .blkDxt5 ro => ro.forBlocks
  | .blkDxt5psp ro => ro.forBlocks
  | .blkRgtc1 ro => ro.forBlocks
  | .blkRgtc1s ro => ro.forBlocks
  | .blkRgtc2 ro => ro.forBlocks
  | .blkRgtc2s ro => ro.forBlocks
  | .blkBptc ro => ro.forBlocks
  | .blkBptcf ro => ro.forBlocks
  | .blkBptcsf ro => ro.forBlocks
  | .blkPvrt2 ro => ro.forWords
  | .blkPvrt4 ro => ro.forWords
  | .reordLinear => true
  | .reordTile3ds => true
  | .reordMorton => true
  | .reordPsp => true
  | .reordSwitch => true
  | .filtNone => true
  | .filtDither => true

end Sys2Proof
end

