-- ==== Sys2Proof/Machine/Validate.lean ====
section
/-! DEFINITION. The format descriptor validator, `VALIDATE` (41_descriptor_validator.md). Each check answers the first
error it finds, none where it passes. -/

namespace Sys2Proof.Machine

/-! ## Geometry and words -/

/-- `check_geometry`: both sides, read as signed numbers, in 0 .. 16383 (41_descriptor_validator.md rule R136). -/
def checkGeometry (s : State) : Option Err :=
  if 0 ≤ s.width.toInt ∧ s.width.toInt < 16384 ∧ 0 ≤ s.height.toInt ∧ s.height.toInt < 16384 then none
  else some (validationErr 1 0)

/-- Sub-causes 7, 9, 11 and 12 of a plain layout's operand fields, in that order (41_descriptor_validator.md rules R142,
R143, R145, R146). -/
def checkPlain (lay : Layout) (f : PlainFmt) : Option Nat :=
  if f.bpp.legal = false then some 7
  else if f.widthsLegal = false then some 9
  else if f.namedWide lay = false then some 11
  else if f.sumFits lay = false then some 12
  else none

/-- Sub-causes 7, 9 and 10 of an Indexed word's fields (41_descriptor_validator.md rules R142 to R144). -/
def checkIndexed (f : PlainFmt) : Option Nat :=
  if f.bpp.legal = false then some 7
  else if f.widthsLegal = false then some 9
  else if f.bpp.indexable = false then some 10
  else none

/-- The sub-cause `check_word` finds in a descriptor word (41_descriptor_validator.md rules R138 to R146). -/
def wordSub (d : DescWord) : Option Nat :=
  if descReserved d ≠ 0 then some 2
  else if 18 < descSpecial d then some 3
  else if 4 < descReorder d then some 4
  else if 1 < descFilter d then some 5
  else if descSpecial d ≠ 0 then none
  else if (bppOf (descBpp d)).legal = false then some 7
  else
    match chOf (descCh d) with
    | none => some 8
    | some (.plain lay) => checkPlain lay (plainOf d)
    | some .indexed => checkIndexed (plainOf d)

/-- `check_word(d, which)` (41_descriptor_validator.md rule R138). -/
def checkWord (d : DescWord) (which : Nat) : Option Err := (wordSub d).map fun sub => validationErr sub which

/-- `check_endian(e, which)` (41_descriptor_validator.md rule R147). -/
def checkEndian (e : Code2) (which : Nat) : Option Err :=
  if (endianOf e).isNone then some (validationErr 6 which) else none

/-! ## The palette of an indexed job -/

/-- Sub-cause 13: no palette, too many, or a palette format that is special, Indexed or 4-bit
(41_descriptor_validator.md rule R148). -/
def paletteShape (s : State) : Bool :=
  s.palCount.toNat != 0 && decide (s.palCount.toNat ≤ s.cfg.palMax) && descSpecial s.palFmt == 0 &&
    descCh s.palFmt != 14 && bppOf (descBpp s.palFmt) != .b4

/-- `check_palette` (41_descriptor_validator.md rule R148). -/
def checkPalette (s : State) : Option Err :=
  ((checkWord s.palFmt 3).or (checkEndian s.palEnd 3)).or
    (if paletteShape s then none else some (validationErr 13 3))

/-! ## Eager unsupported checks -/

/-- A power of two (47_pvrtc.md rule R334). -/
def isPow2 (n : Nat) : Bool := n != 0 && 2 ^ Nat.log2 n == n

/-- The PVRTC geometry condition (47_pvrtc.md rule R334). -/
def pvrtGeometry (k : Special) (w h : Nat) : Bool :=
  w % tileW k == 0 && h % tileH k == 0 && isPow2 (w / tileW k) && isPow2 (h / tileH k)

/-- What `check_supported` finds wrong with a special kind and its reordering: sub-causes 4 to 7 and 10 to 12 of
41_descriptor_validator.md rule R151, on the block grid (48_reorder.md rule R366). -/
def specialSub (c : Config) (k : Special) (ro : Reorder) (w h : Nat) : Option Nat :=
  if ro = .psp ∧ c.implReorderPsp = false then some 4
  else if ro = .switch ∧ c.implReorderSwitch = false then some 5
  else if ro = .tile3ds then some 6
  else if isPvrt k ∧ ro ≠ .linear then some 7
  else
    match (if w * h = 0 then none else reordSub c ro (blocksX k w) (blocksY k h) (8 * blockBytes k)) with
    | some sub => some sub
    | none => if isPvrt k ∧ w * h ≠ 0 ∧ pvrtGeometry k w h = false then some 12 else none

/-- Sub-causes 4 to 12 of 41_descriptor_validator.md rule R151, which look at the input. -/
def inputSub (s : State) : Option Nat :=
  match reorderOf (descReorder s.inFmt) with
  | none => none
  | some ro =>
    match s.special with
    | some k => specialSub s.cfg k ro s.w s.h
    | none => reordSub s.cfg ro s.w s.h s.inBpp.bits

/-- `check_supported`, in the order of the table of 41_descriptor_validator.md rule R151. -/
def supportedSub (s : State) : Option Nat :=
  if descSpecial s.outFmt ≠ 0 then some 1
  else if descReorder s.outFmt ≠ 0 then some 2
  else if descCh s.outFmt = 14 then some 3
  else inputSub s

def checkSupported (s : State) : Option Err := (supportedSub s).map unsupportedErr

/-! ## Length -/

/-- `check_length` for a number of bytes (41_descriptor_validator.md rule R153). -/
def checkBytes (s : State) (n : Nat) : Option Err :=
  if s.inLen.toNat < n then some (.truncated, truncatedInfo n) else none

def checkLength (s : State) : Option Err := if s.area = 0 then none else checkBytes s s.needed

/-! ## The operation -/

/-- The first error of a job's operands, in the order of 41_descriptor_validator.md rule R135. -/
def firstError (s : State) : Option Err :=
  ((((((((checkGeometry s).or (checkWord s.inFmt 1)).or (checkWord s.outFmt 2)).or (checkEndian s.inEnd 1)).or
    (checkEndian s.outEnd 2)).or (if s.isIndexed then checkPalette s else none)).or (checkSupported s)).or
    (checkLength s))

/-- `VALIDATE` (41_descriptor_validator.md rule R135), after which a zero-area job is done (40_pipeline.md rules R112,
R114). -/
def execValidate (s : State) : Result :=
  match firstError s with
  | some e => raising e s
  | none => if s.area = 0 then .next s.finishEmpty else .next (s.toStage .decode)

end Sys2Proof.Machine
end

