-- ==== Sys2Proof/Machine/Channel.lean ====
section
/-! DEFINITION. The channel codec, `CHDEC.<layout>` and `CHENC.<layout>`, and the indexed path `IDX`
(42_channel_codec.md). -/

namespace Sys2Proof.Machine

/-! ## Resampling and bit groups -/

/-- `resample(v, s, d)` (42_channel_codec.md rule R160). -/
def resample (v s d : Nat) : Nat :=
  (v % 2 ^ s * (2 ^ d - 1) + (2 ^ s - 1) / 2) / (2 ^ s - 1)

/-- The bit groups of a raw sample, most significant channel first, right-aligned (42_channel_codec.md rule R169). -/
def bitGroups (raw : Nat) : List (Chan × Nat) → List (Chan × Nat)
  | [] => []
  | (c, n) :: t => (c, bitsOf raw (t.map Prod.snd).sum n) :: bitGroups raw t

/-- The channels of a layout with their widths (10_state.md rule R26). -/
def channelWidths (lay : Layout) (f : PlainFmt) : List (Chan × Nat) := lay.channels.map fun c => (c, f.width c)

/-! ## CHDEC -/

/-- The 8-bit value of a channel of a raw sample, none where the layout does not name it (42_channel_codec.md rule
R170). -/
def sampleChannel (lay : Layout) (f : PlainFmt) (raw : Nat) (c : Chan) : Option Nat :=
  ((bitGroups raw (channelWidths lay f)).find? fun g => g.1 == c).map fun g => resample g.2 (f.width c) 8

/-- The force policy's value of a missing channel (42_channel_codec.md rule R172). -/
def forceValue (f : PlainFmt) : Nat :=
  match f.force with
  | .max => 255
  | .zero => 0

/-- One raw sample as a canonical pixel (42_channel_codec.md rules R170 to R173). -/
def decodeSample (lay : Layout) (f : PlainFmt) (raw : Nat) : Pixel :=
  let ch := sampleChannel lay f raw
  let grey := ch .l
  let value := fun c => ((grey.or (ch c)).getD (forceValue f))
  pixelOf (value .r) (value .g) (value .b) ((ch .a).getD (forceValue f))

/-- `CHDEC(space, f, e, n)` (42_channel_codec.md rule R170). -/
def chdec (c : Config) (m : Memory) (lay : Layout) (f : PlainFmt) (e : Endian) (n : Nat) : List Pixel :=
  (readSamples c m n f.bpp.bits e).map (decodeSample lay f)

/-- Stage `S_DECODE` of a plain job (40_pipeline.md rule R112). Operands that `VALIDATE` refuses raise `VALIDATE`'s
error, and a cursor that would pass `IN_LEN` is a DataTruncatedError (10_state.md rule R33, log entry 11). -/
def chdecStage (lay : Layout) (f : PlainFmt) (s : State) : Result :=
  match checkPlain lay f, endianOf s.inEnd with
  | some sub, _ => raising (validationErr sub 1) s
  | none, none => raising (validationErr 6 1) s
  | none, some e =>
    match checkBytes s (sampleBytes s.area f.bpp.bits) with
    | some err => raising err s
    | none => .next (s.decoded (chdec s.cfg s.inBuf lay f e s.area) (sampleBytes s.area f.bpp.bits) s.tile)

/-! ## CHENC -/

/-- The value packed for a channel of width `n` (42_channel_codec.md rules R176, R178, R179). -/
def packChannel (cfg : Config) (f : PlainFmt) (p : Pixel) (c : Chan) (n : Nat) : Nat :=
  match c with
  | .r => resample p.r.toNat 8 n
  | .g => resample p.g.toNat 8 n
  | .b => resample p.b.toNat 8 n
  | .a => resample p.a.toNat 8 n
  | .l => resample (lumaEncode cfg p.r.toNat p.g.toNat p.b.toNat) 8 n
  | .x =>
    match f.force with
    | .max => 2 ^ n - 1
    | .zero => 0

/-- The raw sample of a pixel: the packed groups, right-aligned, spare bits 0 (42_channel_codec.md rules R169, R176). -/
def encodeGroups (cfg : Config) (f : PlainFmt) (p : Pixel) : List (Chan × Nat) → Nat
  | [] => 0
  | (c, n) :: t => packChannel cfg f p c n * 2 ^ (t.map Prod.snd).sum + encodeGroups cfg f p t

/-- One canonical pixel as a raw sample (42_channel_codec.md rule R176). -/
def encodeSample (c : Config) (lay : Layout) (f : PlainFmt) (p : Pixel) : Nat := encodeGroups c f p (channelWidths lay f)

/-- `CHENC(f, e)` over the first `n` pixels, as the bytes of `OUT` (42_channel_codec.md rule R176). -/
def chenc (c : Config) (px : List Pixel) (lay : Layout) (f : PlainFmt) (e : Endian) (n : Nat) : List Byte :=
  writeSamples c f.bpp.bits e ((List.range n).map fun i => encodeSample c lay f (px.getD i fillPixel))

/-- Stage `S_PACK` of a non-indexed job, the end of the job (40_pipeline.md rule R112): it writes no table, so every
`TBL_LEN[k]` is 0 at its `DONE` (rule R122, log entry 9). Operands that `VALIDATE` refuses raise `VALIDATE`'s error (log
entry 11). -/
def chencStage (lay : Layout) (f : PlainFmt) (s : State) : Result :=
  match checkPlain lay f, endianOf s.outEnd with
  | some sub, _ => raising (validationErr sub 2) s
  | none, none => raising (validationErr 6 2) s
  | none, some e => .next ((s.writeOut (chenc s.cfg s.canon lay f e s.area)).writeTbl []).finish

/-! ## IDX -/

/-- `IDXBUF[i] = read_sample(IN, i, bpp, IN_END)` (42_channel_codec.md rule R188). -/
def idxSamples (c : Config) (m : Memory) (n bits : Nat) (e : Endian) : List Byte :=
  (readSamples c m n bits e).map (BitVec.ofNat 8)

/-- `entries(k)` (42_channel_codec.md rule R187). -/
def State.entries (s : State) (inBits k : Nat) : Nat :=
  entriesOf (s.palLen.getD k 0) (bppOf (descBpp s.palFmt)).bits inBits

/-- `TABLE[k]` for the `PAL_COUNT` palettes (42_channel_codec.md rules R188, R189). -/
def State.palTables (s : State) (lay : Layout) (e : Endian) (inBits : Nat) : List (List Pixel) :=
  (List.range s.palCount.toNat).map fun k => chdec s.cfg (s.pal.getD k []) lay (plainOf s.palFmt) e (s.entries inBits k)

/-- The largest index of a stream (42_channel_codec.md rule R188). -/
def maxIndex (ix : List Byte) : Nat := ix.foldl (fun m b => max m b.toNat) 0

/-- The PaletteRangeError of a stream: the smallest palette its largest index exceeds (42_channel_codec.md rule R192);
a stream without samples has no index (40_pipeline.md rule R114). -/
def State.paletteErr (s : State) (inBits : Nat) (ix : List Byte) : Option Err :=
  if ix.isEmpty then none
  else
    ((List.range s.palCount.toNat).find? fun k => decide (s.entries inBits k ≤ maxIndex ix)).map fun k =>
      (.paletteRange, paletteInfo (maxIndex ix) k)

/-- The palette layout and byte order, none where `VALIDATE` refuses them. -/
def State.palLayout (s : State) : Option (Layout × Endian) :=
  match chOf (descCh s.palFmt), endianOf s.palEnd with
  | some (.plain lay), some e => some (lay, e)
  | _, _ => none

/-- The check of an index class (41_descriptor_validator.md rules R142, R144). -/
def indexSub (bpp : Bpp) : Option Nat :=
  if bpp.legal = false then some 7 else if bpp.indexable = false then some 10 else none

/-- `IDX` (42_channel_codec.md rule R188). Operands that `VALIDATE` refuses raise `VALIDATE`'s error, and a cursor that
would pass `IN_LEN` is a DataTruncatedError (10_state.md rule R33, log entry 11). -/
def execIdx (bpp : Bpp) (s : State) : Result :=
  match indexSub bpp, endianOf s.inEnd, checkPalette s, s.palLayout with
  | some sub, _, _, _ => raising (validationErr sub 1) s
  | none, none, _, _ => raising (validationErr 6 1) s
  | none, some _, some err, _ => raising err s
  | none, some _, none, none => raising (validationErr 8 3) s
  | none, some e, none, some (lay, pe) =>
    match checkBytes s (sampleBytes s.area bpp.bits) with
    | some err => raising err s
    | none =>
      let ix := idxSamples s.cfg s.inBuf s.area bpp.bits e
      match s.paletteErr bpp.bits ix with
      | some err => raising err s
      | none => .next (s.decodedIdx ix (s.palTables lay pe bpp.bits) (sampleBytes s.area bpp.bits))

/-- The canonical ARGB bytes of a colour table (42_channel_codec.md rules R181, R194). -/
def tableBytes (c : Config) (e : Endian) (px : List Pixel) : List Byte :=
  chenc c px .argb (plainOf canonFmt) e px.length

/-- Stage `S_PACK` of an indexed job: one byte per pixel and the resolved tables (42_channel_codec.md rule R194). No
mnemonic of the table names it: the sequencer does it (log entry 2). -/
def packIndexed (s : State) : Result :=
  match endianOf s.outEnd with
  | none => raising (validationErr 6 2) s
  | some e =>
    .next (((s.writeOut ((List.range s.area).map fun i => s.idxBuf.getD i 0)).writeTbl
      (s.tables.map (tableBytes s.cfg e))).finish)

/-! ## The thirteen layouts (42_channel_codec.md rule R171) -/

/-- `CHDEC.RGB` (42_channel_codec.md rules R170, R171). -/
def execChdecRgb (f : PlainFmt) (s : State) : Result := chdecStage .rgb f s

/-- `CHDEC.RGBA` (42_channel_codec.md rules R170, R171). -/
def execChdecRgba (f : PlainFmt) (s : State) : Result := chdecStage .rgba f s

/-- `CHDEC.BGRA` (42_channel_codec.md rules R170, R171). -/
def execChdecBgra (f : PlainFmt) (s : State) : Result := chdecStage .bgra f s

/-- `CHDEC.ARGB` (42_channel_codec.md rules R170, R171). -/
def execChdecArgb (f : PlainFmt) (s : State) : Result := chdecStage .argb f s

/-- `CHDEC.ABGR` (42_channel_codec.md rules R170, R171). -/
def execChdecAbgr (f : PlainFmt) (s : State) : Result := chdecStage .abgr f s

/-- `CHDEC.RGBX` (42_channel_codec.md rules R170, R171). -/
def execChdecRgbx (f : PlainFmt) (s : State) : Result := chdecStage .rgbx f s

/-- `CHDEC.BGRX` (42_channel_codec.md rules R170, R171). -/
def execChdecBgrx (f : PlainFmt) (s : State) : Result := chdecStage .bgrx f s

/-- `CHDEC.XRGB` (42_channel_codec.md rules R170, R171). -/
def execChdecXrgb (f : PlainFmt) (s : State) : Result := chdecStage .xrgb f s

/-- `CHDEC.XBGR` (42_channel_codec.md rules R170, R171). -/
def execChdecXbgr (f : PlainFmt) (s : State) : Result := chdecStage .xbgr f s

/-- `CHDEC.L` (42_channel_codec.md rules R170, R171). -/
def execChdecL (f : PlainFmt) (s : State) : Result := chdecStage .l f s

/-- `CHDEC.A` (42_channel_codec.md rules R170, R171). -/
def execChdecA (f : PlainFmt) (s : State) : Result := chdecStage .a f s

/-- `CHDEC.LA` (42_channel_codec.md rules R170, R171). -/
def execChdecLa (f : PlainFmt) (s : State) : Result := chdecStage .la f s

/-- `CHDEC.AL` (42_channel_codec.md rules R170, R171). -/
def execChdecAl (f : PlainFmt) (s : State) : Result := chdecStage .al f s

/-- `CHENC.RGB` (42_channel_codec.md rules R176, R171). -/
def execChencRgb (f : PlainFmt) (s : State) : Result := chencStage .rgb f s

/-- `CHENC.RGBA` (42_channel_codec.md rules R176, R171). -/
def execChencRgba (f : PlainFmt) (s : State) : Result := chencStage .rgba f s

/-- `CHENC.BGRA` (42_channel_codec.md rules R176, R171). -/
def execChencBgra (f : PlainFmt) (s : State) : Result := chencStage .bgra f s

/-- `CHENC.ARGB` (42_channel_codec.md rules R176, R171). -/
def execChencArgb (f : PlainFmt) (s : State) : Result := chencStage .argb f s

/-- `CHENC.ABGR` (42_channel_codec.md rules R176, R171). -/
def execChencAbgr (f : PlainFmt) (s : State) : Result := chencStage .abgr f s

/-- `CHENC.RGBX` (42_channel_codec.md rules R176, R171). -/
def execChencRgbx (f : PlainFmt) (s : State) : Result := chencStage .rgbx f s

/-- `CHENC.BGRX` (42_channel_codec.md rules R176, R171). -/
def execChencBgrx (f : PlainFmt) (s : State) : Result := chencStage .bgrx f s

/-- `CHENC.XRGB` (42_channel_codec.md rules R176, R171). -/
def execChencXrgb (f : PlainFmt) (s : State) : Result := chencStage .xrgb f s

/-- `CHENC.XBGR` (42_channel_codec.md rules R176, R171). -/
def execChencXbgr (f : PlainFmt) (s : State) : Result := chencStage .xbgr f s

/-- `CHENC.L` (42_channel_codec.md rules R176, R171). -/
def execChencL (f : PlainFmt) (s : State) : Result := chencStage .l f s

/-- `CHENC.A` (42_channel_codec.md rules R176, R171). -/
def execChencA (f : PlainFmt) (s : State) : Result := chencStage .a f s

/-- `CHENC.LA` (42_channel_codec.md rules R176, R171). -/
def execChencLa (f : PlainFmt) (s : State) : Result := chencStage .la f s

/-- `CHENC.AL` (42_channel_codec.md rules R176, R171). -/
def execChencAl (f : PlainFmt) (s : State) : Result := chencStage .al f s

end Sys2Proof.Machine
end

