-- ==== Sys2Proof/Machine/Blocks.lean ====
section
/-! DEFINITION. The common contract of the block codecs: decoding the stream block by block and scattering the tiles
through the reordering transform (40_pipeline.md rules R116, R117). A codec is a function from a block, as the
little-endian number of its bytes (20_memory.md rule R58), to the pixels of its tile. -/

namespace Sys2Proof.Machine

/-- Block `n` of the stream as a number (40_pipeline.md rule R117). -/
def blockAt (m : Memory) (n bytes : Nat) : Nat := le (m.readBytes (n * bytes) bytes)

/-- The texels of a tile of side `side` with origin `(ox, oy)` put into a `w` by `h` picture; texels outside it are
discarded (40_pipeline.md rule R117). -/
def putTile (side w h ox oy : Nat) (tile canon : List Pixel) : List Pixel :=
  (List.range (side * side)).foldl
    (fun px t =>
      let x := ox + t % side
      let y := oy + t / side
      if x < w ∧ y < h then px.set (y * w + x) (tile.getD t fillPixel) else px)
    canon

/-- One block of the stream: its tile goes where the map sends it, or is dropped (40_pipeline.md rule R117). -/
def placeBlock (side w h bx by_ : Nat) (dest : Option Nat) (tile canon : List Pixel) : List Pixel :=
  match dest with
  | none => canon
  | some d => if d < bx * by_ then putTile side w h (d % bx * side) (d / bx * side) tile canon else canon

/-- Block decode and scatter for a whole picture (40_pipeline.md rule R117). -/
def decodeBlocks (c : Config) (codec : Nat → List Pixel) (side bytes w h bx by_ : Nat) (ro : Reorder) (m : Memory) : List Pixel :=
  (List.range (bx * by_)).foldl
    (fun px n => placeBlock side w h bx by_ (reordMap c ro n bx by_ (8 * bytes)) (codec (blockAt m n bytes)) px)
    (List.replicate (w * h) fillPixel)

/-- What `n` block decodes leave in `TILE`: the tile of the last one (10_state.md rule R36). -/
def lastTile (codec : Nat → List Pixel) (bytes n : Nat) (m : Memory) (old : List Pixel) : List Pixel :=
  match n with
  | 0 => old
  | k + 1 => codec (blockAt m k bytes)

/-- Stage `S_DECODE` of a job with a special kind other than PVRTC (40_pipeline.md rules R112, R117). Operands that
`VALIDATE` refuses raise `VALIDATE`'s error, and a cursor that would pass `IN_LEN` is a DataTruncatedError
(10_state.md rule R33, log entry 11). -/
def blockStage (k : Special) (codec : Nat → List Pixel) (ro : Reorder) (s : State) : Result :=
  match specialSub s.cfg k ro s.w s.h, checkBytes s (specialBytes k s.w s.h) with
  | some sub, _ => raising (unsupportedErr sub) s
  | none, some err => raising err s
  | none, none =>
    .next (s.decoded
      (decodeBlocks s.cfg codec (tileW k) (blockBytes k) s.w s.h (blocksX k s.w) (blocksY k s.h) ro s.inBuf)
      (specialBytes k s.w s.h) (lastTile codec (blockBytes k) (blocksX k s.w * blocksY k s.h) s.inBuf s.tile))

end Sys2Proof.Machine
end

