-- ==== Sys2Proof/Machine/Bc7.lean ====
section
/-! DEFINITION. The BPTC (BC7) block codec (45_bc7.md). -/

namespace Sys2Proof.Machine

/-! ## Partitions and anchors -/

/-- `subset(t)` (45_bc7.md rule R272). -/
def bc7Subset (c : Config) (ns part t : Nat) : Nat :=
  if ns = 2 then bc7P2 c part t else if ns = 3 then bc7P3 c part t else 0

/-- The anchor texel of a subset (45_bc7.md rule R275). -/
def bc7Anchor (c : Config) (ns part sub : Nat) : Nat :=
  if sub = 0 then 0
  else if ns = 2 then (bc7A2 c).getD part 0
  else if sub = 1 then (bc7A3A c).getD part 0
  else (bc7A3B c).getD part 0

/-- Texel `t` is the anchor of its own subset. -/
def bc7IsAnchor (c : Config) (ns part t : Nat) : Bool := t == bc7Anchor c ns part (bc7Subset c ns part t)

/-- The widths of the sixteen primary indices, one bit fewer at an anchor (45_bc7.md rule R280). -/
def indexWidths (c : Config) (ib ns part : Nat) : List Nat :=
  (List.range 16).map fun t => if bc7IsAnchor c ns part t then ib - 1 else ib

/-- The widths of the sixteen secondary indices, none where there are none (45_bc7.md rules R266, R280). -/
def secondaryWidths (ib2 : Nat) : List Nat := (List.range 16).map fun t => if t = 0 then ib2 - 1 else ib2

/-- `interp(a, b, w)` on unbounded integers (45_bc7.md rule R282, 00_scope.md rule R11). DESIGN CHOICE, log entry 22: a
result outside 0 .. 255, which only a weight above 64 or a mode table with endpoints above 8 bits gives, is a free
value. -/
def bc7Interp (a b w : Nat) : Nat := channelByte .bc7 (((64 - (w : Int)) * a + w * b + 32) / 64)

/-! ## Fields -/

/-- `ctz8` of the first byte, none for a zero byte (00_scope.md rule R11, 45_bc7.md rules R268, R269). -/
def bc7ModeOf (v : Nat) : Option Nat := (List.range 8).find? fun m => bitsOf v m 1 == 1

/-- Where the endpoints start (45_bc7.md rule R266). -/
def bc7EndpointPos (k : Bc7Mode) (m : Nat) : Nat := m + 1 + k.pb + k.rb + k.isb

/-- Where the parity bits start (45_bc7.md rule R266). -/
def bc7ParityPos (k : Bc7Mode) (m : Nat) : Nat := bc7EndpointPos k m + 6 * k.ns * k.cb + 2 * k.ns * k.ab

/-- Where the primary indices start (45_bc7.md rule R266). -/
def bc7IndexPos (k : Bc7Mode) (m : Nat) : Nat := bc7ParityPos k m + 2 * k.ns * k.epb + k.ns * k.spb

/-- Where the secondary indices start (45_bc7.md rule R266). -/
def bc7Index2Pos (k : Bc7Mode) (m : Nat) : Nat := bc7IndexPos k m + (16 * k.ib - k.ns)

/-- The raw field of channel `c` (0 red, 1 green, 2 blue, 3 alpha) of endpoint `e`: all reds before all greens
(45_bc7.md rule R270). -/
def bc7Raw (k : Bc7Mode) (m v c e : Nat) : Nat :=
  if c < 3 then bitsOf v (bc7EndpointPos k m + (2 * k.ns * c + e) * k.cb) k.cb
  else bitsOf v (bc7EndpointPos k m + 6 * k.ns * k.cb + e * k.ab) k.ab

/-- The parity bit of endpoint `e`, its own or its subset's (45_bc7.md rule R278). -/
def bc7Parity (k : Bc7Mode) (m v e : Nat) : Nat :=
  if k.epb = 1 then bitsOf v (bc7ParityPos k m + e) 1 else bitsOf v (bc7ParityPos k m + e / 2) 1

/-- Expansion of `p` bits to 8 (45_bc7.md rule R279). -/
def expandTo8 (v p : Nat) : Nat :=
  let x := v * 2 ^ (8 - p)
  x + x / 2 ^ p

/-- Channel `c` of endpoint `e`, expanded to 8 bits (45_bc7.md rules R270, R278, R279). -/
def bc7Endpoint (k : Bc7Mode) (m v c e : Nat) : Nat :=
  if c = 3 ∧ k.ab = 0 then 255
  else
    let bits := if c < 3 then k.cb else k.ab
    if k.epb = 1 ∨ k.spb = 1 then expandTo8 (2 * bc7Raw k m v c e + bc7Parity k m v e) (bits + 1)
    else expandTo8 (bc7Raw k m v c e) bits

/-! ## The tile -/

/-- A channel swapped with alpha (45_bc7.md rule R284). -/
def bc7Rotate (rot r g b a : Nat) : Pixel :=
  if rot = 1 then pixelOf a g b r else if rot = 2 then pixelOf r a b g else if rot = 3 then pixelOf r g a b
  else pixelOf r g b a

/-- One texel of a block of mode `m` (45_bc7.md rules R283, R285). -/
def bc7Texel (c : Config) (k : Bc7Mode) (m v : Nat) (idx1 idx2 : List Nat) (t : Nat) : Pixel :=
  let part := bitsOf v (m + 1) k.pb
  let rot := bitsOf v (m + 1 + k.pb) k.rb
  let isb := bitsOf v (m + 1 + k.pb + k.rb) k.isb
  let sub := bc7Subset c k.ns part t
  let w1 := (bc7W c k.ib).getD (idx1.getD t 0) 0
  let w2 := (bc7W c k.ib2).getD (idx2.getD t 0) 0
  let colorW := if k.ib2 ≠ 0 ∧ isb = 1 then w2 else w1
  let alphaW := if k.ib2 ≠ 0 ∧ isb = 0 then w2 else w1
  let chan := fun ch w => bc7Interp (bc7Endpoint k m v ch (2 * sub)) (bc7Endpoint k m v ch (2 * sub + 1)) w
  bc7Rotate rot (chan 0 colorW) (chan 1 colorW) (chan 2 colorW) (if k.ab = 0 then 255 else chan 3 alphaW)

/-- The tile of a block of mode `m` (45_bc7.md rule R285). -/
def bc7Tile (c : Config) (k : Bc7Mode) (m v : Nat) : List Pixel :=
  let part := bitsOf v (m + 1) k.pb
  let idx1 := readFields v (bc7IndexPos k m) (indexWidths c k.ib k.ns part)
  let idx2 := readFields v (bc7Index2Pos k m) (secondaryWidths k.ib2)
  (List.range 16).map (bc7Texel c k m v idx1 idx2)

/-- `BLK.BPTC`: the tile of one block; a zero first byte gives sixteen `(0,0,0,0)` (45_bc7.md rules R269, R285). -/
def bc7 (c : Config) (v : Nat) : List Pixel :=
  match bc7ModeOf v with
  | none => List.replicate 16 fillPixel
  | some m =>
    match (bc7Modes c)[m]? with
    | none => List.replicate 16 fillPixel
    | some k => bc7Tile c k m v

/-- `BLK.BPTC` (45_bc7.md rule R285). -/
def execBlkBptc (ro : Reorder) (s : State) : Result := blockStage .bptc (bc7 s.cfg) ro s

end Sys2Proof.Machine
end

