-- ==== Sys2Proof/Machine/BptcFloat.lean ====
section
/-! DEFINITION. The BPTC-Float and BPTC-SignedFloat block codecs (46_bptc_float.md). -/

namespace Sys2Proof.Machine

/-! ## Endpoints -/

/-- The field bits an item of a layout holds, in their places (46_bptc_float.md rule R304). -/
def itemBits (v : Nat) (it : LayoutItem) : Nat :=
  if it.i ≤ it.j then bitsOf v it.pos (it.j - it.i + 1) * 2 ^ it.i
  else ((List.range (it.i - it.j + 1)).map fun t => bitsOf v (it.pos + t) 1 * 2 ^ (it.i - t)).sum

/-- `e[c][k]` as the block holds it (46_bptc_float.md rule R306). -/
def fieldOf (lay : List LayoutItem) (v ch ep : Nat) : Nat :=
  ((lay.filter fun it => it.ch == ch && it.ep == ep).map (itemBits v)).sum

/-- `dR`, `dG` or `dB` (46_bptc_float.md rule R302). -/
def deltaBits (k : BptcfMode) (ch : Nat) : Nat := if ch = 0 then k.dR else if ch = 1 then k.dG else k.dB

/-- `e[c][k]` after delta decoding, unsigned (46_bptc_float.md rule R307). -/
def endpointBits (k : BptcfMode) (v ch ep : Nat) : Nat :=
  if ep = 0 ∨ k.delta = false then fieldOf k.layout v ch ep
  else (((fieldOf k.layout v ch 0 : Int) + sext (deltaBits k ch) (fieldOf k.layout v ch ep)) % (2 ^ k.epb : Nat)).toNat

/-- `e[c][k]` as the kind reads it: two's complement of `EPB` bits in the signed kind (46_bptc_float.md rule R308). -/
def endpointValue (signed : Bool) (k : BptcfMode) (v ch ep : Nat) : Int :=
  if signed then sext k.epb (endpointBits k v ch ep) else (endpointBits k v ch ep : Int)

/-- `unq_u(x)` (46_bptc_float.md rule R309). -/
def unqU (epb : Nat) (x : Int) : Int :=
  if 15 ≤ epb then x
  else if x = 0 then 0
  else if x = (2 ^ epb - 1 : Nat) then 0xFFFF
  else (x * 65536 + 0x8000) / (2 ^ epb : Nat)

/-- `unq_s(x)` (46_bptc_float.md rule R310). -/
def unqS (epb : Nat) (x : Int) : Int :=
  if 16 ≤ epb then x
  else
    let a := x.natAbs
    let u : Nat :=
      if a = 0 then 0
      else if 2 ^ (epb - 1) - 1 ≤ a then 0x7FFF
      else (a * 32768 + 0x4000) / 2 ^ (epb - 1)
    if x < 0 then -(u : Int) else (u : Int)

def unq (signed : Bool) (epb : Nat) (x : Int) : Int := if signed then unqS epb x else unqU epb x

/-! ## Interpolation and the half-float -/

/-- `v = (a*(64 - w) + b*w + 32) >> 6`, the shift rounding down (46_bptc_float.md rule R312). -/
def halfInterp (a b : Int) (w : Nat) : Int := (a * (64 - (w : Int)) + b * (w : Int) + 32) / 64

/-- The half-float pattern (46_bptc_float.md rule R313). -/
def halfOf (signed : Bool) (v : Int) : Nat :=
  if signed then
    if v < 0 then
      let mag := ((-v) * 31 / 32).toNat
      if mag = 0 then 0 else 0x8000 ||| mag
    else (v * 31 / 32).toNat
  else (v * 31 / 64).toNat

/-- The interpolated value has a half-float pattern of 16 bits, its sign bit the value's (46_bptc_float.md rules R313,
R317). -/
def halfFits (signed : Bool) (v : Int) : Bool :=
  if signed then decide (v.natAbs * 31 / 32 < 0x8000) else decide (0 ≤ v ∧ v * 31 / 64 < 0x8000)

/-- The byte of an interpolated value (46_bptc_float.md rules R313, R318). DESIGN CHOICE, log entry 22: a value without a
half-float pattern, which only weights above 64 or another mode table give, gives a free value. -/
def halfByte (c : Config) (signed : Bool) (v : Int) : Nat :=
  if halfFits signed v then halfToByte c (halfOf signed v) else (Config.freeChannel .half v).toNat

/-! ## The tile -/

/-- The mode value of a block (46_bptc_float.md rule R302). -/
def bptcfModeValue (v : Nat) : Nat := if bitsOf v 0 2 < 2 then bitsOf v 0 2 else bitsOf v 0 5

/-- The mode of a block, none for a reserved mode value (46_bptc_float.md rules R302, R303). -/
def bptcfModeOf (c : Config) (v : Nat) : Option BptcfMode := (bptcfModes c).find? fun k => k.value == bptcfModeValue v

/-- The partition `d` of a two-region block (46_bptc_float.md rule R301). -/
def bptcfPartition (v : Nat) : Nat := bitsOf v 77 5

/-- The bits of one index (46_bptc_float.md rule R302). -/
def bptcfIndexBits (k : BptcfMode) : Nat := if k.regions = 2 then 3 else 4

/-- The sixteen indices of a block (46_bptc_float.md rule R311). -/
def bptcfIndices (c : Config) (k : BptcfMode) (v : Nat) : List Nat :=
  readFields v (if k.regions = 2 then 82 else 65) (indexWidths c (bptcfIndexBits k) k.regions (bptcfPartition v))

/-- The interpolated value of channel `ch` of texel `t` (46_bptc_float.md rules R312, R314). -/
def bptcfValue (c : Config) (signed : Bool) (k : BptcfMode) (v : Nat) (idx : List Nat) (t ch : Nat) : Int :=
  let sub := bc7Subset c k.regions (bptcfPartition v) t
  let w := (bc7W c (bptcfIndexBits k)).getD (idx.getD t 0) 0
  let e := fun ep => unq signed k.epb (endpointValue signed k v ch ep)
  halfInterp (e (2 * sub)) (e (2 * sub + 1)) w

/-- The half-float pattern of channel `ch` of texel `t` (46_bptc_float.md rules R313, R314). -/
def bptcfHalf (c : Config) (signed : Bool) (k : BptcfMode) (v : Nat) (idx : List Nat) (t ch : Nat) : Nat :=
  halfOf signed (bptcfValue c signed k v idx t ch)

/-- The tile of one block; a reserved mode value gives sixteen `(0,0,0,255)` (46_bptc_float.md rules R303, R314). -/
def bptcf (c : Config) (signed : Bool) (v : Nat) : List Pixel :=
  match bptcfModeOf c v with
  | none => List.replicate 16 (pixelOf 0 0 0 255)
  | some k =>
    let idx := bptcfIndices c k v
    let byte := fun t ch => halfByte c signed (bptcfValue c signed k v idx t ch)
    (List.range 16).map fun t => pixelOf (byte t 0) (byte t 1) (byte t 2) 255

/-- `BLK.BPTCF` (46_bptc_float.md rule R314). -/
def execBlkBptcf (ro : Reorder) (s : State) : Result := blockStage .bptcf (bptcf s.cfg false) ro s

/-- `BLK.BPTCSF` (46_bptc_float.md rule R315). -/
def execBlkBptcsf (ro : Reorder) (s : State) : Result := blockStage .bptcsf (bptcf s.cfg true) ro s

end Sys2Proof.Machine
end

