-- ==== Sys2Proof/Machine/Control.lean ====
section
/-! DEFINITION. The two commands, `START` and `CLEAR`. -/

namespace Sys2Proof.Machine

/-- `START` (40_pipeline.md rule R110): in `IDLE` a job begins, and the sequencer runs its stages to the end (Job.lean); in any
other state the write is ignored. It runs on the registers as they stand; the boot requirements are on the host, whose write
of `CMD` is refused before it has met them (`hostCommand`, log entry 3). -/
def execStart (s : State) : Result := if s.status = .idle then .next s.beginJob else .next s

/-- `CLEAR` (10_state.md rule R32): in `DONE` or `ERROR` back to `IDLE`; in any other state the write is ignored. -/
def execClear (s : State) : Result :=
  if s.status = .done ∨ s.status = .error then .next s.clearStatus else .next s

end Sys2Proof.Machine
end

