-- ==== Sys2Proof/Machine/Dxt.lean ====
section
/-! DEFINITION. The DXT and RGTC block codecs (43_dxt_rgtc.md). -/

namespace Sys2Proof.Machine

/-! ## The colour sub-block -/

/-- The fields of a colour sub-block: two reference colours and the selector word (43_dxt_rgtc.md rule R201). -/
structure ColorBlock where
  c0 : Nat
  c1 : Nat
  sel : Nat
  deriving DecidableEq, Repr

/-- A colour sub-block in the plain order (43_dxt_rgtc.md rule R201). -/
def colorBlock (v : Nat) : ColorBlock := ⟨bitsOf v 0 16, bitsOf v 16 16, bitsOf v 32 32⟩

/-- A colour sub-block in the PSP order, selectors first (43_dxt_rgtc.md rule R208). -/
def colorBlockPsp (v : Nat) : ColorBlock := ⟨bitsOf v 32 16, bitsOf v 48 16, bitsOf v 0 32⟩

/-- `exp565(c)`, the red, green and blue (43_dxt_rgtc.md rule R202). -/
def exp565 (c : Nat) : Nat × Nat × Nat :=
  let r5 := bitsOf c 11 5
  let g6 := bitsOf c 5 6
  let b5 := bitsOf c 0 5
  (r5 * 8 + r5 / 4, g6 * 4 + g6 / 16, b5 * 8 + b5 / 4)

/-- A colour mixed from the two expanded references, channel by channel. -/
def mix565 (f : Nat → Nat → Nat) (cb : ColorBlock) : Pixel :=
  let p0 := exp565 cb.c0
  let p1 := exp565 cb.c1
  pixelOf (f p0.1 p1.1) (f p0.2.1 p1.2.1) (f p0.2.2 p1.2.2) 255

/-- The four-colour palette (43_dxt_rgtc.md rule R203). -/
def palette4 (cb : ColorBlock) : List Pixel :=
  [mix565 (fun a _ => a) cb, mix565 (fun _ b => b) cb, mix565 (fun a b => (2 * a + b) / 3) cb,
   mix565 (fun a b => (a + 2 * b) / 3) cb]

/-- The three-colour palette with transparent black (43_dxt_rgtc.md rule R204). -/
def palette3 (cb : ColorBlock) : List Pixel :=
  [mix565 (fun a _ => a) cb, mix565 (fun _ b => b) cb, mix565 (fun a b => (a + b) / 2) cb, fillPixel]

/-- The palette of DXT1: three colours when the first reference is at most the second (43_dxt_rgtc.md rule R205). -/
def paletteDxt1 (cb : ColorBlock) : List Pixel := if cb.c0 ≤ cb.c1 then palette3 cb else palette4 cb

/-- The sixteen texels of a palette by the selectors (43_dxt_rgtc.md rule R206). -/
def selectColors (pal : List Pixel) (sel : Nat) : List Pixel :=
  (List.range 16).map fun t => pal.getD (bitsOf sel (2 * t) 2) fillPixel

/-- The tile of a DXT1 colour sub-block (43_dxt_rgtc.md rule R206). -/
def dxt1Tile (cb : ColorBlock) : List Pixel := selectColors (paletteDxt1 cb) cb.sel

/-- The tile of a colour sub-block with separate alphas, always four colours (43_dxt_rgtc.md rule R209). -/
def alphaTile (cb : ColorBlock) (alphas : List Nat) : List Pixel :=
  (List.range 16).map fun t =>
    let p := (palette4 cb).getD (bitsOf cb.sel (2 * t) 2) fillPixel
    { p with a := BitVec.ofNat 8 (alphas.getD t 0) }

/-! ## Alpha and ramp sub-blocks -/

/-- The alphas of a DXT3 alpha sub-block (43_dxt_rgtc.md rule R210). -/
def dxt3Alphas (v : Nat) : List Nat := (List.range 16).map fun t => 17 * bitsOf v (4 * t) 4

/-- The unsigned ramp (43_dxt_rgtc.md rule R215). -/
def rampU (a0 a1 : Nat) : List Nat :=
  if a1 < a0 then [a0, a1] ++ (List.range 6).map fun j => ((6 - j) * a0 + (j + 1) * a1) / 7
  else [a0, a1] ++ ((List.range 4).map fun j => ((4 - j) * a0 + (j + 1) * a1) / 5) ++ [0, 255]

/-- The canonical byte of a signed value: the value with `SRGTC_BIAS` added (43_dxt_rgtc.md rule R221). DESIGN CHOICE, log
entry 21: a sum outside 0 .. 255, which the default bias never gives and for which the rule states no byte, is a free
value. -/
def srgtcByte (c : Config) (v : Int) : Nat := channelByte .srgtc (v + c.srgtcBias)

/-- The signed ramp, biased to a byte (43_dxt_rgtc.md rule R221). -/
def rampS (c : Config) (b0 b1 : Nat) : List Nat :=
  let s0 := sext 8 b0
  let s1 := sext 8 b1
  let mixes (n d : Nat) : List Int :=
    (List.range n).map fun j => Int.tdiv (((n : Int) - (j : Int)) * s0 + ((j : Int) + 1) * s1) (d : Int)
  let t : List Int := if s1 < s0 then [s0, s1] ++ mixes 6 7 else [s0, s1] ++ mixes 4 5 ++ [-128, 127]
  t.map (srgtcByte c)

/-- The sixteen values of a ramp by 48 bits of 3-bit selectors (43_dxt_rgtc.md rules R214, R216). -/
def selectRamp (ramp : List Nat) (sel : Nat) : List Nat :=
  (List.range 16).map fun t => ramp.getD (bitsOf sel (3 * t) 3) 0

/-- `ramp_block_u(bytes)` (43_dxt_rgtc.md rule R216). -/
def rampBlockU (v : Nat) : List Nat := selectRamp (rampU (bitsOf v 0 8) (bitsOf v 8 8)) (bitsOf v 16 48)

/-- The signed ramp sub-block (43_dxt_rgtc.md rules R221, R222). -/
def rampBlockS (c : Config) (v : Nat) : List Nat := selectRamp (rampS c (bitsOf v 0 8) (bitsOf v 8 8)) (bitsOf v 16 48)

/-- A ramp sub-block in the PSP order: selectors, then the reference bytes (43_dxt_rgtc.md rule R218). -/
def rampBlockPsp (v : Nat) : List Nat := selectRamp (rampU (bitsOf v 48 8) (bitsOf v 56 8)) (bitsOf v 0 48)

/-! ## The codecs -/

/-- `BLK.DXT1` (43_dxt_rgtc.md rule R206). -/
def dxt1 (v : Nat) : List Pixel := dxt1Tile (colorBlock v)

/-- The two bytes of a reference colour exchanged (43_dxt_rgtc.md rule R207). -/
def swap16 (c : Nat) : Nat := bitsOf c 0 8 * 256 + bitsOf c 8 8

/-- `BLK.DXT1ALT` (43_dxt_rgtc.md rule R207). -/
def dxt1alt (c : Config) (v : Nat) : List Pixel :=
  let cb := colorBlock v
  dxt1Tile (if c.dxt1AltByteswap then ⟨swap16 cb.c0, swap16 cb.c1, cb.sel⟩ else cb)

/-- `BLK.DXT1PSP` (43_dxt_rgtc.md rule R208). -/
def dxt1psp (v : Nat) : List Pixel := dxt1Tile (colorBlockPsp v)

/-- `BLK.DXT3` (43_dxt_rgtc.md rule R211). -/
def dxt3 (v : Nat) : List Pixel := alphaTile (colorBlock (bitsOf v 64 64)) (dxt3Alphas (bitsOf v 0 64))

/-- `BLK.DXT3PSP` (43_dxt_rgtc.md rule R212). -/
def dxt3psp (v : Nat) : List Pixel := alphaTile (colorBlockPsp (bitsOf v 0 64)) (dxt3Alphas (bitsOf v 64 64))

/-- `BLK.DXT5` (43_dxt_rgtc.md rule R217). -/
def dxt5 (v : Nat) : List Pixel := alphaTile (colorBlock (bitsOf v 64 64)) (rampBlockU (bitsOf v 0 64))

/-- `BLK.DXT5PSP` (43_dxt_rgtc.md rule R218). -/
def dxt5psp (v : Nat) : List Pixel := alphaTile (colorBlockPsp (bitsOf v 0 64)) (rampBlockPsp (bitsOf v 64 64))

/-- A red tile (43_dxt_rgtc.md rule R219). -/
def redTile (vs : List Nat) : List Pixel := vs.map fun r => pixelOf r 0 0 255

/-- A red-green tile (43_dxt_rgtc.md rule R220). -/
def redGreenTile (v0 v1 : List Nat) : List Pixel := List.zipWith (fun r g => pixelOf r g 0 255) v0 v1

/-- `BLK.RGTC1` (43_dxt_rgtc.md rule R219). -/
def rgtc1 (v : Nat) : List Pixel := redTile (rampBlockU v)

/-- `BLK.RGTC1S` (43_dxt_rgtc.md rule R222). -/
def rgtc1s (c : Config) (v : Nat) : List Pixel := redTile (rampBlockS c v)

/-- `BLK.RGTC2` (43_dxt_rgtc.md rule R220). -/
def rgtc2 (v : Nat) : List Pixel := redGreenTile (rampBlockU (bitsOf v 0 64)) (rampBlockU (bitsOf v 64 64))

/-- `BLK.RGTC2S` (43_dxt_rgtc.md rule R223). -/
def rgtc2s (c : Config) (v : Nat) : List Pixel :=
  redGreenTile (rampBlockS c (bitsOf v 0 64)) (rampBlockS c (bitsOf v 64 64))

/-! ## The operations -/

/-- `BLK.DXT1` (43_dxt_rgtc.md rule R206). -/
def execBlkDxt1 (ro : Reorder) (s : State) : Result := blockStage .dxt1 dxt1 ro s
/-- `BLK.DXT1ALT` (43_dxt_rgtc.md rule R207). -/
def execBlkDxt1alt (ro : Reorder) (s : State) : Result := blockStage .dxt1alt (dxt1alt s.cfg) ro s
/-- `BLK.DXT1PSP` (43_dxt_rgtc.md rule R208). -/
def execBlkDxt1psp (ro : Reorder) (s : State) : Result := blockStage .dxt1psp dxt1psp ro s
/-- `BLK.DXT3` (43_dxt_rgtc.md rule R211). -/
def execBlkDxt3 (ro : Reorder) (s : State) : Result := blockStage .dxt3 dxt3 ro s
/-- `BLK.DXT3PSP` (43_dxt_rgtc.md rule R212). -/
def execBlkDxt3psp (ro : Reorder) (s : State) : Result := blockStage .dxt3psp dxt3psp ro s
/-- `BLK.DXT5` (43_dxt_rgtc.md rule R217). -/
def execBlkDxt5 (ro : Reorder) (s : State) : Result := blockStage .dxt5 dxt5 ro s
/-- `BLK.DXT5PSP` (43_dxt_rgtc.md rule R218). -/
def execBlkDxt5psp (ro : Reorder) (s : State) : Result := blockStage .dxt5psp dxt5psp ro s
/-- `BLK.RGTC1` (43_dxt_rgtc.md rule R219). -/
def execBlkRgtc1 (ro : Reorder) (s : State) : Result := blockStage .rgtc1 rgtc1 ro s
/-- `BLK.RGTC1S` (43_dxt_rgtc.md rule R222). -/
def execBlkRgtc1s (ro : Reorder) (s : State) : Result := blockStage .rgtc1s (rgtc1s s.cfg) ro s
/-- `BLK.RGTC2` (43_dxt_rgtc.md rule R220). -/
def execBlkRgtc2 (ro : Reorder) (s : State) : Result := blockStage .rgtc2 rgtc2 ro s
/-- `BLK.RGTC2S` (43_dxt_rgtc.md rule R223). -/
def execBlkRgtc2s (ro : Reorder) (s : State) : Result := blockStage .rgtc2s (rgtc2s s.cfg) ro s

end Sys2Proof.Machine
end

