-- ==== Sys2Proof/Machine/Etc1.lean ====
section
/-! DEFINITION. The ETC1 and ETC1A4 block codecs (44_etc1.md). -/

namespace Sys2Proof.Machine

/-- 5 bits expanded to 8 by replication (44_etc1.md rule R245). -/
def etc1Expand5 (v : Nat) : Nat := v * 8 + v / 4

/-- The base colour of half 1 or 2 in one channel: `lo` is the bit of the channel's lowest colour bit, 40, 48 or 56
(44_etc1.md rules R241, R243 to R245). -/
def etc1Base (v lo : Nat) (second : Bool) : Nat :=
  if bitsOf v 33 1 = 0 then 17 * (if second then bitsOf v lo 4 else bitsOf v (lo + 4) 4)
  else
    let base := bitsOf v (lo + 3) 5
    if second then etc1Expand5 (((base : Int) + sext 3 (bitsOf v lo 3)) % 32).toNat else etc1Expand5 base

/-- Pixel `(x, y)` lies in half 2 (44_etc1.md rule R247). -/
def etc1SecondHalf (v x y : Nat) : Bool := if bitsOf v 32 1 = 1 then decide (2 ≤ y) else decide (2 ≤ x)

/-- The offset of pixel `(x, y)` (44_etc1.md rules R241, R242, R246). -/
def etc1Offset (c : Config) (v x y : Nat) : Int :=
  let p := 4 * x + y
  let t := if etc1SecondHalf v x y then bitsOf v 34 3 else bitsOf v 37 3
  ((etc1Mod c).getD t []).getD (2 * bitsOf v (16 + p) 1 + bitsOf v p 1) 0

/-- The alpha of pixel `(x, y)`: 255, or the nibble of the alpha word (44_etc1.md rules R248, R250). -/
def etc1Alpha (alpha : Option Nat) (x y : Nat) : Nat :=
  match alpha with
  | none => 255
  | some aw => 17 * bitsOf aw (4 * (4 * x + y)) 4

/-- `SUB[x, y]` (44_etc1.md rule R248). -/
def etc1Pixel (c : Config) (v : Nat) (alpha : Option Nat) (x y : Nat) : Pixel :=
  let second := etc1SecondHalf v x y
  let m := etc1Offset c v x y
  ⟨clampByte (etc1Base v 56 second + m), clampByte (etc1Base v 48 second + m), clampByte (etc1Base v 40 second + m),
   BitVec.ofNat 8 (etc1Alpha alpha x y)⟩

/-- The 8 by 8 tile of four sub-blocks, left to right, then top to bottom (44_etc1.md rules R240, R249); `word` and
`alpha` give the words of a sub-block. -/
def etc1Tile (c : Config) (word : Nat → Nat) (alpha : Nat → Option Nat) : List Pixel :=
  (List.range 64).map fun t =>
    let x := t % 8
    let y := t / 8
    let sub := y / 4 * 2 + x / 4
    etc1Pixel c (word sub) (alpha sub) (x % 4) (y % 4)

/-- `BLK.ETC1`: four colour words (44_etc1.md rule R249). -/
def etc1 (c : Config) (v : Nat) : List Pixel := etc1Tile c (fun sub => bitsOf v (64 * sub) 64) fun _ => none

/-- `BLK.ETC1A4`: four times an alpha word, then a colour word (44_etc1.md rule R251). -/
def etc1a4 (c : Config) (v : Nat) : List Pixel :=
  etc1Tile c (fun sub => bitsOf v (128 * sub + 64) 64) fun sub => some (bitsOf v (128 * sub) 64)

/-- `BLK.ETC1` (44_etc1.md rule R249). -/
def execBlkEtc1 (ro : Reorder) (s : State) : Result := blockStage .etc1 (etc1 s.cfg) ro s

/-- `BLK.ETC1A4` (44_etc1.md rule R251). -/
def execBlkEtc1a4 (ro : Reorder) (s : State) : Result := blockStage .etc1a4 (etc1a4 s.cfg) ro s

end Sys2Proof.Machine
end

