-- ==== Sys2Proof/Machine/Filter.lean ====
section
/-! DEFINITION. The output filter, `FILT.NONE` and `FILT.DITHER` (49_filter.md). -/

namespace Sys2Proof.Machine

/-- The channels the output layout packs (49_filter.md rule R399). -/
def outChannels (d : DescWord) : List Chan :=
  match chOf (descCh d) with
  | some (.plain lay) => lay.channels
  | some .indexed => []
  | none => []

/-- `targetBits(c)`: the width the output gives a canonical channel, 0 where it is not packed (49_filter.md rule R399). -/
def targetBits (d : DescWord) (c : Chan) : Nat :=
  let f := plainOf d
  let named := outChannels d
  match c with
  | .a => if named.contains .a then f.abits else 0
  | _ => if named.contains .l then f.width .l else if named.contains c then f.width c else 0

/-- `BAYER8[x mod 8][y mod 8]` (49_filter.md rule R396). -/
def bayerAt (c : Config) (x y : Nat) : Nat := ((bayer8 c).getD (x % 8) []).getD (y % 8) 0

/-- One channel dithered to `t` target bits (49_filter.md rules R398, R400, R401). -/
def ditherChannel (c : Config) (t x y : Nat) (v : Byte) : Byte :=
  if 1 ≤ t ∧ t ≤ 7 then BitVec.ofNat 8 (min 255 (v.toNat + bayerAt c x y * 2 ^ (8 - t) / 64)) else v

/-- One pixel dithered (49_filter.md rule R398). -/
def ditherPixel (c : Config) (d : DescWord) (x y : Nat) (p : Pixel) : Pixel :=
  ⟨ditherChannel c (targetBits d .r) x y p.r, ditherChannel c (targetBits d .g) x y p.g,
   ditherChannel c (targetBits d .b) x y p.b, ditherChannel c (targetBits d .a) x y p.a⟩

/-- A picture of width `w` dithered, pixel by pixel (49_filter.md rule R398). -/
def ditherList (c : Config) (d : DescWord) (w : Nat) (px : List Pixel) : List Pixel :=
  px.mapIdx fun i p => ditherPixel c d (i % w) (i / w) p

/-- `FILT.NONE` (49_filter.md rule R395). -/
def execFiltNone (s : State) : Result := .next (s.toStage .pack)

/-- `FILT.DITHER` (49_filter.md rule R398); an indexed job is not filtered (rule R405). -/
def execFiltDither (s : State) : Result :=
  if s.isIndexed then .next (s.toStage .pack)
  else .next (s.withCanon (ditherList s.cfg s.outFmt s.w s.canon) .pack)

end Sys2Proof.Machine
end

