-- ==== Sys2Proof/Machine/Pvrtc.lean ====
section
/-! DEFINITION. The PVRTC codecs, which decode the whole picture from its word grid (47_pvrtc.md). -/

namespace Sys2Proof.Machine

/-! ## Words -/

/-- Four channel values: a colour at the common precision (5, 5, 5, 4) or upscaled to 8 bits (47_pvrtc.md rules
R333, R338). -/
structure Quad where
  r : Nat
  g : Nat
  b : Nat
  a : Nat
  deriving DecidableEq, Repr

/-- `MOD`, the modulation field of a word (47_pvrtc.md rule R331). -/
def pvMod (v : Nat) : Nat := bitsOf v 0 32

/-- `COL`, the two-colour field of a word (47_pvrtc.md rule R331). -/
def pvCol (v : Nat) : Nat := bitsOf v 32 32

/-- `MM`, the modulation mode bit of a word (47_pvrtc.md rule R332). -/
def pvMm (v : Nat) : Nat := bitsOf (pvCol v) 0 1

/-- 3 colour bits at 5 bits (47_pvrtc.md rule R333). -/
def pv3to5 (v : Nat) : Nat := v * 4 + v / 2

/-- 4 colour bits at 5 bits (47_pvrtc.md rule R333). -/
def pv4to5 (v : Nat) : Nat := v * 2 + v / 8

/-- `A5(word)` (47_pvrtc.md rules R332, R333). -/
def a5 (v : Nat) : Quad :=
  let c := pvCol v
  if bitsOf c 15 1 = 1 then ⟨bitsOf c 10 5, bitsOf c 5 5, pv4to5 (bitsOf c 1 4), 15⟩
  else ⟨pv4to5 (bitsOf c 8 4), pv4to5 (bitsOf c 4 4), pv3to5 (bitsOf c 1 3), bitsOf c 12 3 * 2⟩

/-- `B5(word)` (47_pvrtc.md rules R332, R333). -/
def b5 (v : Nat) : Quad :=
  let c := pvCol v
  if bitsOf c 31 1 = 1 then ⟨bitsOf c 26 5, bitsOf c 21 5, bitsOf c 16 5, 15⟩
  else ⟨pv4to5 (bitsOf c 24 4), pv4to5 (bitsOf c 20 4), pv4to5 (bitsOf c 16 4), bitsOf c 28 3 * 2⟩

/-! ## The word grid -/

/-- `k` bits of `y` in the even places and of `x` in the odd places (47_pvrtc.md rule R335). -/
def interleave : Nat → Nat → Nat → Nat
  | 0, _, _ => 0
  | k + 1, x, y => y % 2 + 2 * (x % 2) + 4 * interleave k (x / 2) (y / 2)

/-- `tw(x, y)` for a grid of `nx` by `ny` words (47_pvrtc.md rule R335). -/
def twiddle (nx ny x y : Nat) : Nat :=
  let k := Nat.log2 (min nx ny)
  interleave k x y + (if ny < nx then x / 2 ^ k else y / 2 ^ k) * 4 ^ k

/-- A word grid: its sides and its words in stream order. -/
structure WordGrid where
  nx : Nat
  ny : Nat
  words : List Nat
  deriving DecidableEq, Repr

/-- `word(x, y)`, the coordinates wrapping (47_pvrtc.md rules R335, R337). -/
def WordGrid.at (g : WordGrid) (x y : Nat) : Nat := g.words.getD (twiddle g.nx g.ny (x % g.nx) (y % g.ny)) 0

/-- The word grid of a stream (47_pvrtc.md rules R331, R335). -/
def readGrid (m : Memory) (nx ny : Nat) : WordGrid := ⟨nx, ny, (List.range (nx * ny)).map fun n => blockAt m n 8⟩

/-- The first grid coordinate of a pixel's cell: the pixel's own word in the far half of a word of side `side`, the word
before it (toroidally, of `n`) in the near half (47_pvrtc.md rule R337). -/
def cellWord (p side n : Nat) : Nat := if side / 2 ≤ p % side then p / side else p / side + (n - 1)

/-- The place of a pixel in its cell, `u` or `v` (47_pvrtc.md rule R337). -/
def cellPlace (p side : Nat) : Nat := if side / 2 ≤ p % side then p % side - side / 2 else p % side + side / 2

/-! ## Upscaled colours -/

/-- `t` of one channel of the words `P`, `Q`, `R`, `S`, with their bilinear factors `fs` (47_pvrtc.md rule R338). -/
def upscaleSum (fs : List Nat) (p q r s : Nat) : Nat :=
  fs.getD 0 0 * p + fs.getD 1 0 * q + fs.getD 2 0 * r + fs.getD 3 0 * s

/-- `up` of a colour channel (47_pvrtc.md rule R338). -/
def upColor (ww t : Nat) : Nat := if ww = 8 then t / 128 + t / 4 else t / 64 + t / 2

/-- `up.A` (47_pvrtc.md rule R338). -/
def upAlpha (ww t : Nat) : Nat := if ww = 8 then t / 32 + t / 2 else t / 16 + t

/-- `upA` or `upB` of pixel `(px, py)`, for `five` the colour `A5` or `B5` (47_pvrtc.md rules R337, R338). -/
def upscaled (c : Config) (g : WordGrid) (ww : Nat) (five : Nat → Quad) (px py : Nat) : Quad :=
  let x := cellWord px ww g.nx
  let y := cellWord py 4 g.ny
  let fs := pvrtFactors c ww (cellPlace px ww) (cellPlace py 4)
  let p := five (g.at x y)
  let q := five (g.at (x + 1) y)
  let r := five (g.at x (y + 1))
  let s := five (g.at (x + 1) (y + 1))
  ⟨upColor ww (upscaleSum fs p.r q.r r.r s.r), upColor ww (upscaleSum fs p.g q.g r.g s.g),
   upColor ww (upscaleSum fs p.b q.b r.b s.b), upAlpha ww (upscaleSum fs p.a q.a r.a s.a)⟩

/-! ## Modulation -/

/-- The weight in eighths and the punch flag of pixel `(lx, ly)` of a PVRT4 word (47_pvrtc.md rule R339). -/
def pvrt4Weight (c : Config) (v lx ly : Nat) : Nat × Bool :=
  let k := bitsOf (pvMod v) (2 * (4 * ly + lx)) 2
  if pvMm v = 0 then ((pvrtMod0 c).getD k 0, false) else ((pvrtMod1 c).getD k 0, (pvrtPunch c).getD k false)

/-- `sub`, the sub-mode of a PVRT2 word: 1 both ways, 2 horizontal, 3 vertical (47_pvrtc.md rule R340). -/
def pvrt2Sub (v : Nat) : Nat :=
  if bitsOf (pvMod v) 0 1 = 0 then 1 else if bitsOf (pvMod v) 20 1 = 1 then 3 else 2

/-- Bit `j` of `M'` (47_pvrtc.md rule R340). -/
def pvrt2Fixed (v j : Nat) : Nat :=
  if j = 0 then bitsOf (pvMod v) 1 1
  else if j = 20 ∧ bitsOf (pvMod v) 0 1 = 1 then bitsOf (pvMod v) 21 1
  else bitsOf (pvMod v) j 1

/-- The stored code of pixel `(lx, ly)` of a PVRT2 word (47_pvrtc.md rule R340). -/
def pvrt2Code (v lx ly : Nat) : Nat :=
  if pvMm v = 0 then 3 * bitsOf (pvMod v) (8 * ly + lx) 1
  else
    let i := 4 * ly + lx / 2
    pvrt2Fixed v (2 * i) + 2 * pvrt2Fixed v (2 * i + 1)

/-- `st(qx, qy)`, the coordinates wrapping around the picture (47_pvrtc.md rule R341). -/
def pvrt2Stored (c : Config) (g : WordGrid) (qx qy : Nat) : Nat :=
  let x := qx % (8 * g.nx)
  let y := qy % (4 * g.ny)
  (pvrtRep c).getD (pvrt2Code (g.at (x / 8) (y / 4)) (x % 8) (y % 4)) 0

/-- The weight of pixel `(px, py)` of a PVRT2 picture (47_pvrtc.md rule R341). -/
def pvrt2Weight (c : Config) (g : WordGrid) (px py : Nat) : Nat :=
  let v := g.at (px / 8) (py / 4)
  let up := pvrt2Stored c g px (py + (4 * g.ny - 1))
  let down := pvrt2Stored c g px (py + 1)
  let left := pvrt2Stored c g (px + (8 * g.nx - 1)) py
  let right := pvrt2Stored c g (px + 1) py
  if pvMm v = 0 ∨ (px + py) % 2 = 0 then pvrt2Stored c g px py
  else if pvrt2Sub v = 1 then (up + down + left + right + 2) / 4
  else if pvrt2Sub v = 2 then (left + right + 1) / 2
  else (up + down + 1) / 2

/-! ## Pixels and pictures -/

/-- `out.c` on unbounded integers (47_pvrtc.md rule R343, 00_scope.md rule R11). DESIGN CHOICE, log entry 22: a result
outside 0 .. 255, which only weights above 8 or factors with another sum give, is a free value. -/
def modulate (m a b : Nat) : Nat := channelByte .pvrtc (((a : Int) * (8 - (m : Int)) + b * m) / 8)

/-- One pixel (47_pvrtc.md rule R343). -/
def pvrtPixel (a b : Quad) (m : Nat) (punch : Bool) : Pixel :=
  pixelOf (modulate m a.r b.r) (modulate m a.g b.g) (modulate m a.b b.b) (if punch then 0 else modulate m a.a b.a)

/-- Pixel `(px, py)` of a PVRT4 picture (47_pvrtc.md rule R344). -/
def pvrt4Pixel (c : Config) (g : WordGrid) (px py : Nat) : Pixel :=
  let w := pvrt4Weight c (g.at (px / 4) (py / 4)) (px % 4) (py % 4)
  pvrtPixel (upscaled c g 4 a5 px py) (upscaled c g 4 b5 px py) w.1 w.2

/-- Pixel `(px, py)` of a PVRT2 picture (47_pvrtc.md rule R345). -/
def pvrt2Pixel (c : Config) (g : WordGrid) (px py : Nat) : Pixel :=
  pvrtPixel (upscaled c g 8 a5 px py) (upscaled c g 8 b5 px py) (pvrt2Weight c g px py) false

/-- A `w` by `h` picture, pixel by pixel. -/
def pictureOf (pixel : Nat → Nat → Pixel) (w h : Nat) : List Pixel :=
  (List.range (w * h)).map fun i => pixel (i % w) (i / w)

/-- Stage `S_DECODE` of a PVRTC job: the whole picture at once, without `CUR` (47_pvrtc.md rule R330, 10_state.md rule
R34). Operands that `VALIDATE` refuses raise `VALIDATE`'s error, and too short an input is a DataTruncatedError
(10_state.md rule R33, log entry 11). -/
def pvrtStage (k : Special) (pixel : WordGrid → Nat → Nat → Pixel) (ro : Reorder) (s : State) : Result :=
  match specialSub s.cfg k ro s.w s.h, checkBytes s (specialBytes k s.w s.h) with
  | some sub, _ => raising (unsupportedErr sub) s
  | none, some err => raising err s
  | none, none =>
    .next (s.withCanon (pictureOf (pixel (readGrid s.inBuf (blocksX k s.w) (blocksY k s.h))) s.w s.h) .reorder)

/-- `BLK.PVRT2` (47_pvrtc.md rule R345). -/
def execBlkPvrt2 (ro : Reorder) (s : State) : Result := pvrtStage .pvrt2 (pvrt2Pixel s.cfg) ro s

/-- `BLK.PVRT4` (47_pvrtc.md rule R344). -/
def execBlkPvrt4 (ro : Reorder) (s : State) : Result := pvrtStage .pvrt4 (pvrt4Pixel s.cfg) ro s

end Sys2Proof.Machine
end

