-- ==== Sys2Proof/Machine/Dispatch.lean ====
section
/-! DEFINITION. One arm per instruction, each a direct call of its meaning. -/

namespace Sys2Proof.Machine

def exec (i : Instr) (s : State) : Host.Outcome State Fault Refusal :=
  match i with
  | .start => Sys2Proof.Machine.execStart s
  | .clear => Sys2Proof.Machine.execClear s
  | .validate => Sys2Proof.Machine.execValidate s
  | .chdecRgb f => Sys2Proof.Machine.execChdecRgb f s
  | .chdecRgba f => Sys2Proof.Machine.execChdecRgba f s
  | .chdecBgra f => Sys2Proof.Machine.execChdecBgra f s
  | .chdecArgb f => Sys2Proof.Machine.execChdecArgb f s
  | .chdecAbgr f => Sys2Proof.Machine.execChdecAbgr f s
  | .chdecRgbx f => Sys2Proof.Machine.execChdecRgbx f s
  | .chdecBgrx f => Sys2Proof.Machine.execChdecBgrx f s
  | .chdecXrgb f => Sys2Proof.Machine.execChdecXrgb f s
  | .chdecXbgr f => Sys2Proof.Machine.execChdecXbgr f s
  | .chdecL f => Sys2Proof.Machine.execChdecL f s
  | .chdecA f => Sys2Proof.Machine.execChdecA f s
  | .chdecLa f => Sys2Proof.Machine.execChdecLa f s
  | .chdecAl f => Sys2Proof.Machine.execChdecAl f s
  | .idx bpp => Sys2Proof.Machine.execIdx bpp s
  | .chencRgb f => Sys2Proof.Machine.execChencRgb f s
  | .chencRgba f => Sys2Proof.Machine.execChencRgba f s
  | .chencBgra f => Sys2Proof.Machine.execChencBgra f s
  | .chencArgb f => Sys2Proof.Machine.execChencArgb f s
  | .chencAbgr f => Sys2Proof.Machine.execChencAbgr f s
  | .chencRgbx f => Sys2Proof.Machine.execChencRgbx f s
  | .chencBgrx f => Sys2Proof.Machine.execChencBgrx f s
  | .chencXrgb f => Sys2Proof.Machine.execChencXrgb f s
  | .chencXbgr f => Sys2Proof.Machine.execChencXbgr f s
  | .chencL f => Sys2Proof.Machine.execChencL f s
  | .chencA f => Sys2Proof.Machine.execChencA f s
  | .chencLa f => Sys2Proof.Machine.execChencLa f s
  | .chencAl f => Sys2Proof.Machine.execChencAl f s
  | .blkEtc1 ro => Sys2Proof.Machine.execBlkEtc1 ro s
  | .blkEtc1a4 ro => Sys2Proof.Machine.execBlkEtc1a4 ro s
  | .blkDxt1 ro => Sys2Proof.Machine.execBlkDxt1 ro s
  | .blkDxt1alt ro => Sys2Proof.Machine.execBlkDxt1alt ro s
  | .blkDxt1psp ro => Sys2Proof.Machine.execBlkDxt1psp ro s
  | .blkDxt3 ro => Sys2Proof.Machine.execBlkDxt3 ro s
  | .blkDxt3psp ro => Sys2Proof.Machine.execBlkDxt3psp ro s
  | .blkDxt5 ro => Sys2Proof.Machine.execBlkDxt5 ro s
  | .blkDxt5psp ro => Sys2Proof.Machine.execBlkDxt5psp ro s
  | .blkRgtc1 ro => Sys2Proof.Machine.execBlkRgtc1 ro s
  | .blkRgtc1s ro => Sys2Proof.Machine.execBlkRgtc1s ro s
  | .blkRgtc2 ro => Sys2Proof.Machine.execBlkRgtc2 ro s
  | .blkRgtc2s ro => Sys2Proof.Machine.execBlkRgtc2s ro s
  | .blkBptc ro => Sys2Proof.Machine.execBlkBptc ro s
  | .blkBptcf ro => Sys2Proof.Machine.execBlkBptcf ro s
  | .blkBptcsf ro => Sys2Proof.Machine.execBlkBptcsf ro s
  | .blkPvrt2 ro => Sys2Proof.Machine.execBlkPvrt2 ro s
  | .blkPvrt4 ro => Sys2Proof.Machine.execBlkPvrt4 ro s
  | .reordLinear => Sys2Proof.Machine.execReordLinear s
  | .reordTile3ds => Sys2Proof.Machine.execReordTile3ds s
  | .reordMorton => Sys2Proof.Machine.execReordMorton s
  | .reordPsp => Sys2Proof.Machine.execReordPsp s
  | .reordSwitch => Sys2Proof.Machine.execReordSwitch s
  | .filtNone => Sys2Proof.Machine.execFiltNone s
  | .filtDither => Sys2Proof.Machine.execFiltDither s

end Sys2Proof.Machine
end

