-- ==== Sys2Proof/Machine/Fetch.lean ====
section
/-! DEFINITION. Which operation the sequencer runs next: the pending command between jobs, the fixed program of
40_pipeline.md rule R112 inside one (log entry 2). -/

namespace Sys2Proof.Machine

/-- What the machine is about to do. -/
inductive Fetched where
  /-- between jobs with no command pending: nothing -/
  | idle
  /-- between jobs with command code 0 or 3, "ignored" (30_encoding.md rule R89) -/
  | dropCommand
  /-- between jobs, a command -/
  | command (i : Instr)
  /-- in a job, the operation of the running stage -/
  | stageOp (i : Instr)
  /-- in an indexed job, the packing of `IDXBUF` and `TABLE`, which no mnemonic names (40_pipeline.md rule R112) -/
  | packIndexed
  /-- in a job, a descriptor word that is no instruction -/
  | bad (e : DecodeError)
  /-- `BUSY` with no running stage -/
  | noStage
  deriving DecidableEq, Repr

/-- The operation of a stage, from the descriptor word the stage reads. -/
def fetchWord (slot : Slot) (d : DescWord) : Fetched :=
  match decode slot d with
  | .ok i => .stageOp i
  | .error e => .bad e

/-- The operation of the running stage (40_pipeline.md rule R112). -/
def fetchStage (s : State) : Fetched :=
  match s.stage with
  | .validate => .stageOp .validate
  | .decode => fetchWord .inOp s.inFmt
  | .reorder => fetchWord .inReorder s.inFmt
  | .filter => fetchWord .outFilter s.outFmt
  | .pack => if s.isIndexed then .packIndexed else fetchWord .outPack s.outFmt
  | .idle => .noStage
  | .done => .noStage
  | .error => .noStage

/-- The command written to `CMD` (30_encoding.md rule R89). -/
def fetchCommand (c : Code2) : Fetched :=
  match decode .cmd (c.setWidth 64) with
  | .ok i => .command i
  | .error _ => .dropCommand

/-- What the machine does next. -/
def fetch (s : State) : Fetched :=
  if s.status = .busy then fetchStage s
  else
    match s.cmd with
    | none => .idle
    | some c => fetchCommand c

/-- The state in which the next fetch reads the word `w` in the given slot (log entry 2). -/
def State.placeWord (s : State) (slot : Slot) (w : Nat) : State :=
  match slot with
  | .cmd =>
    { s with status := if s.status = .busy then .idle else s.status, cmd := some (BitVec.ofNat 2 w) }
  | .validate => { s with status := .busy, stage := .validate }
  | .inOp => { s with status := .busy, stage := .decode, inFmt := BitVec.ofNat 64 w }
  | .inReorder => { s with status := .busy, stage := .reorder, inFmt := BitVec.ofNat 64 w }
  | .outFilter => { s with status := .busy, stage := .filter, outFmt := BitVec.ofNat 64 w }
  | .outPack => { s with status := .busy, stage := .pack, outFmt := BitVec.ofNat 64 w }

end Sys2Proof.Machine
end

