-- ==== Sys2Proof/Machine/Job.lean ====
section
/-! DEFINITION. Running the stages: one stage, the rest of a job, and a command with the job it starts (40_pipeline.md rules
R110, R112, log entry 1). -/

namespace Sys2Proof.Machine

/-- The operation of the running stage (40_pipeline.md rule R112). -/
def stageStep (s : State) : Result :=
  match fetchStage s with
  | .stageOp i => exec i s
  | .packIndexed => packIndexed s
  | .bad e => .refused (.reservedEncoding e)
  | .noStage => .fault .noStage
  | .idle => .fault .noStage
  | .dropCommand => .fault .noStage
  | .command _ => .fault .noStage

/-- At most `n` stages, one after another, as long as the job runs (40_pipeline.md rule R112, 20_memory.md rule R74). -/
def runStages : Nat → State → Result
  | 0, s => .next s
  | n + 1, s => if s.status = .busy then andThen (stageStep s) (runStages n) else .next s

/-- A command: its instruction, and for a `START` the five stages of its job to the end, so that a job is one step
(70_reset_and_hazards.md rule R456, 10_state.md rule R31). -/
def runCommand (i : Instr) (s : State) : Result := andThen (exec i s) (runStages 5)

end Sys2Proof.Machine
end

