-- ==== Sys2Proof/Machine/Step.lean ====
section
/-! DEFINITION. One step of the machine: between jobs the command in `CMD`, a `START` with its whole job (70_reset_and_hazards.md
rule R456: a job is one step of the model). A state already inside a job, which no step from outside leaves, runs one
stage (log entry 1). -/

namespace Sys2Proof.Machine

/-- One step. -/
def step (s : State) : Host.Outcome State Fault Refusal :=
  match fetch s with
  | .idle => .next s
  | .dropCommand => .next s.takeCmd
  | .command i => runCommand i s.takeCmd
  | .stageOp _ => stageStep s
  | .packIndexed => stageStep s
  | .bad _ => stageStep s
  | .noStage => stageStep s

/-- `s` with the instruction word `w`, numbered as the opcode table numbers it, where `step` fetches next (log entry
2). -/
def State.withFetchWord (s : State) (nbits w : Nat) : State := s.placeWord (tableSlot nbits w) w

end Sys2Proof.Machine
end

