-- ==== Sys2Proof/Machine/HostPort.lean ====
section
/-! DEFINITION. What the host does to the machine between steps (log entry 13): writing and reading job registers,
writing `CMD`, changing the buffers, reading the status and the outputs, and reset (10_state.md rules R21, R30 to
R32, 20_memory.md rules R50, R64, R69, 70_reset_and_hazards.md rules R440 to R444). -/

namespace Sys2Proof.Machine

/-- What a host access answers. -/
abbrev Answer (α : Type) := Host.Outcome α Fault Refusal

/-- A host access other than a read of `STATUS.STATE` or a write of `CMD` is refused while the engine is busy
(70_reset_and_hazards.md rule R451), and while a command that was placed in `CMD` waits for its step. DESIGN
CHOICE (log entry 13), where 20_memory.md rule R69(c) leaves an access undefined until the host has READ `STATUS.STATE = DONE`
or `ERROR`: the model answers an access as soon as the job has ended, whether or not the host has read the status. -/
def whileIdle {α : Type} (s : State) (r : Answer α) : Answer α :=
  if s.status = .busy ∨ s.cmd ≠ none then .refused .hostAccessWhileBusy else r

/-- An access to element `k` of a register or buffer array, of which `PAL_MAX` exist (10_state.md rule R21). -/
def indexed {α : Type} (s : State) (k : Nat) (r : Answer α) : Answer α :=
  if k < s.cfg.palMax then r else .fault .noSuchRegister

/-- The palette length register a name means, none for the other registers. -/
def JobReg.index : JobReg → Option Nat
  | .palLen k => some k
  | .width => none | .height => none | .inFmt => none | .inEnd => none | .outFmt => none | .outEnd => none
  | .palFmt => none | .palEnd => none | .palCount => none | .inLen => none

/-- The width of a job register in bits (10_state.md rule R21). -/
def JobReg.bits : JobReg → Nat
  | .width => 32 | .height => 32 | .inFmt => 64 | .inEnd => 2 | .outFmt => 64 | .outEnd => 2
  | .palFmt => 64 | .palEnd => 2 | .palCount => 8 | .inLen => 32 | .palLen _ => 32

/-- An access to a job register, which must exist. -/
def JobReg.guard {α : Type} (s : State) (r : JobReg) (a : Answer α) : Answer α :=
  match r.index with
  | none => a
  | some k => indexed s k a

/-- The value of a job register (10_state.md rule R21). -/
def State.getReg (s : State) : JobReg → BitVec 64
  | .width => s.width.setWidth 64
  | .height => s.height.setWidth 64
  | .inFmt => s.inFmt
  | .inEnd => s.inEnd.setWidth 64
  | .outFmt => s.outFmt
  | .outEnd => s.outEnd.setWidth 64
  | .palFmt => s.palFmt
  | .palEnd => s.palEnd.setWidth 64
  | .palCount => s.palCount.setWidth 64
  | .inLen => s.inLen.setWidth 64
  | .palLen k => (s.palLen.getD k 0).setWidth 64

/-- A job register set to the low bits of a value (10_state.md rule R21). -/
def State.putReg (s : State) (r : JobReg) (v : BitVec 64) : State :=
  match r with
  | .width => { s with width := v.setWidth 32 }
  | .height => { s with height := v.setWidth 32 }
  | .inFmt => { s with inFmt := v }
  | .inEnd => { s with inEnd := v.setWidth 2 }
  | .outFmt => { s with outFmt := v }
  | .outEnd => { s with outEnd := v.setWidth 2 }
  | .palFmt => { s with palFmt := v }
  | .palEnd => { s with palEnd := v.setWidth 2 }
  | .palCount => { s with palCount := v.setWidth 8 }
  | .inLen => { s with inLen := v.setWidth 32 }
  | .palLen k => { s with palLen := s.palLen.set k (v.setWidth 32) }

/-- The host writes a job register (10_state.md rule R21). -/
def hostWriteReg (r : JobReg) (v : BitVec 64) (s : State) : Result :=
  whileIdle s (r.guard s (.next ((s.putReg r v).markWritten r)))

/-- The host reads a job register (10_state.md rule R21). -/
def hostReadReg (r : JobReg) (s : State) : Answer (BitVec 64) := whileIdle s (r.guard s (.next (s.getReg r)))

/-- The registers every job reads that have no default (70_reset_and_hazards.md rules R442, R443). -/
def bootRegs : List JobReg := [.width, .height, .inFmt, .inEnd, .inLen]

/-- The registers without a default that an indexed job with `n` palettes reads beside them (70_reset_and_hazards.md rules
R442, R443). -/
def paletteRegs (n : Nat) : List JobReg := [.palFmt, .palEnd] ++ (List.range n).map .palLen

/-- The registers without a default that the next job reads; `OUT_FMT`, `OUT_END` and `PAL_COUNT` have one (10_state.md rules
R39, R40). `PAL_LEN[k]` exists for `k < PAL_MAX` only (10_state.md rule R21). -/
def State.requiredRegs (s : State) : List JobReg :=
  bootRegs ++ if s.isIndexed then paletteRegs (min s.palCount.toNat s.cfg.palMax) else []

/-- The boot requirements: the host has written every register without a default that the next job reads (10_state.md rule
R40, 70_reset_and_hazards.md rules R442, R443). -/
def State.bootComplete (s : State) : Bool := s.requiredRegs.all s.written.contains

/-- The host writes `CMD` (10_state.md rule R32): the write itself is the step that acts on it, so a `START` reads the job
registers and the buffers as they stand at the write (70_reset_and_hazards.md rule R454, 20_memory.md rule R72). A write
while the engine is busy is ignored (70_reset_and_hazards.md rule R453). A write of `START` in `IDLE` before the host has met
the boot requirements is refused (70_reset_and_hazards.md rule R442, log entry 3). -/
def hostCommand (c : Code2) (s : State) : Result :=
  if s.status = .busy then .next s
  else if s.cmd ≠ none then .refused .hostAccessWhileBusy
  else if c = 1 ∧ s.status = .idle ∧ s.bootComplete = false then .refused .bootIncomplete
  else step { s with cmd := some c }

/-- The byte addresses of a buffer: lengths are 32-bit registers (10_state.md rule R21). -/
def addressLimit : Nat := 2 ^ 32

/-- A host write to the byte address `a` of a buffer, which must exist. -/
def addressed {α : Type} (a : Nat) (r : Answer α) : Answer α :=
  if a < addressLimit then r else .fault .noSuchAddress

/-- The list of buffers `ms` with the byte `a` of buffer `k` set. -/
def putByte (ms : List Memory) (k a : Nat) (v : Byte) : List Memory := ms.set k ((ms.getD k []).write a v)

/-- The host places a byte in `IN` (20_memory.md rule R50). -/
def hostPutIn (a : Nat) (v : Byte) (s : State) : Result :=
  whileIdle s (addressed a (.next { s with inBuf := s.inBuf.write a v }))

/-- The host places a byte in `PAL[k]` (20_memory.md rule R50). -/
def hostPutPal (k a : Nat) (v : Byte) (s : State) : Result :=
  whileIdle s (indexed s k (addressed a (.next { s with pal := putByte s.pal k a v })))

/-- The host changes a byte of `OUT` between jobs (70_reset_and_hazards.md rule R444). The bytes beyond the lengths, which
have "any value", are drawn anew (log entry 5). -/
def hostPutOut (a : Nat) (v : Byte) (s : State) : Result :=
  whileIdle s (addressed a (.next { s with out := s.out.write a v, jobs := s.jobs + 1 }))

/-- The host changes a byte of `TBL[k]` between jobs (70_reset_and_hazards.md rule R444), as `hostPutOut` does in `OUT`. -/
def hostPutTbl (k a : Nat) (v : Byte) (s : State) : Result :=
  whileIdle s (indexed s k (addressed a (.next { s with tbl := putByte s.tbl k a v, jobs := s.jobs + 1 })))

/-- The host reads `STATUS.STATE`, which is how it learns that a job has ended (20_memory.md rule R69). -/
def hostReadStatus (s : State) : Status := s.status

/-- The host reads `ERR_CODE` (10_state.md rule R30). -/
def hostReadErrCode (s : State) : Answer ErrCode := whileIdle s (.next s.errCode)

/-- The host reads `ERR_INFO` (10_state.md rule R30). -/
def hostReadErrInfo (s : State) : Answer Word32 := whileIdle s (.next s.errInfo)

/-- The host reads `OUT_LEN` (10_state.md rule R30). -/
def hostReadOutLen (s : State) : Answer Word32 := whileIdle s (.next s.outLen)

/-- The host reads `TBL_LEN[k]` (10_state.md rule R30). -/
def hostReadTblLen (k : Nat) (s : State) : Answer Word32 :=
  whileIdle s (indexed s k (.next (s.tblLen.getD k 0)))

/-- A byte of an output buffer: below the length what the engine or, after it, the host wrote, a free value beyond it
(40_pipeline.md rule R122, 93_implementation_defined.md row 16, log entry 5). -/
def outputByte (s : State) (space : Nat) (m : Memory) (len : Word32) (a : Nat) : Byte :=
  if a < len.toNat then m.read a else Config.freeByte s.jobs space a

/-- The host reads a byte of `OUT` (20_memory.md rule R50). -/
def hostReadOut (a : Nat) (s : State) : Answer Byte := whileIdle s (.next (outputByte s 0 s.out s.outLen a))

/-- The host reads a byte of `TBL[k]` (20_memory.md rule R50). -/
def hostReadTbl (k a : Nat) (s : State) : Answer Byte :=
  whileIdle s (indexed s k (.next (outputByte s (k + 1) (s.tbl.getD k []) (s.tblLen.getD k 0) a)))

/-- Reset, at any time, with the one effect it always has (70_reset_and_hazards.md rules R440, R441, log entry 14). -/
def hostReset (s : State) : State := { State.resetOf s.cfg with jobs := s.jobs + 1 }

end Sys2Proof.Machine
end

