-- ==== Sys2Proof/Safety.lean ====
section
/-! DEFINITION. The terms claims use: the states a job reaches, the jobs VALIDATE accepts, and what a job may not change. -/

namespace Sys2Proof.Machine

/-- A stage in which the sequencer runs an operation (40_pipeline.md rule R112). -/
def Stage.running : Stage → Bool
  | .validate => true | .decode => true | .reorder => true | .filter => true | .pack => true
  | .idle => false | .done => false | .error => false

/-- The engine's buffers and arrays are as 20_memory.md rule R50 gives them: every buffer in canonical form, `PAL_MAX` of
each array. -/
def State.buffersWf (s : State) : Bool :=
  s.inBuf.wf && s.out.wf && s.pal.all Memory.wf && s.tbl.all Memory.wf && decide (s.palLen.length = s.cfg.palMax) &&
    decide (s.tblLen.length = s.cfg.palMax) && decide (s.pal.length = s.cfg.palMax) &&
    decide (s.tbl.length = s.cfg.palMax)

/-- `BUSY` exactly while a stage runs, and no command is pending in a job (10_state.md rules R31 to R33). -/
def State.sequencerWf (s : State) : Bool :=
  (if s.status = .busy then s.stage.running && s.cmd.isNone else !s.stage.running)

/-- Outside a job the internal job state does not exist (10_state.md rule R36, log entry 8), and no error is left to be
raised between two steps. -/
def State.internalWf (s : State) : Bool :=
  s.fault.isNone &&
    (if s.status = .busy then true
     else decide (s.cur = 0) && s.canon.isEmpty && s.idxBuf.isEmpty && s.tables.isEmpty && s.tile.isEmpty)

/-- `ERR_CODE` names an error exactly in `ERROR`, and outside `ERROR` `ERR_INFO` is 0 (40_pipeline.md rule R110, 10_state.md
rule R32). -/
def State.errorWf (s : State) : Bool :=
  match s.status with
  | .error => s.errCode != .none
  | .busy => s.errCode == .none && s.errInfo == 0
  | .idle => s.errCode == .none && s.errInfo == 0
  | .done => s.errCode == .none && s.errInfo == 0

/-- The invariant of the machine. -/
def State.Inv (s : State) : Prop :=
  s.buffersWf = true ∧ s.sequencerWf = true ∧ s.internalWf = true ∧ s.errorWf = true

/-! ## Legal jobs, in the words of the spec -/

/-- A descriptor word that `check_word` accepts (41_descriptor_validator.md rules R139 to R146). -/
def wordLegal (d : DescWord) : Prop :=
  descReserved d = 0 ∧ descSpecial d ≤ 18 ∧ descReorder d ≤ 4 ∧ descFilter d ≤ 1 ∧
    (descSpecial d = 0 →
      1 ≤ descBpp d ∧ descBpp d ≤ 6 ∧ 1 ≤ descCh d ∧ descCh d ≤ 14 ∧
      descRbits d ≤ 16 ∧ descGbits d ≤ 16 ∧ descBbits d ≤ 16 ∧ descAbits d ≤ 16 ∧
      (descCh d = 14 → descBpp d ≤ 2) ∧
      (∀ lay, chOf (descCh d) = some (.plain lay) →
        (∀ c ∈ lay.channels, c ≠ .x → 0 < (plainOf d).width c) ∧
        (lay.channels.map (plainOf d).width).sum ≤ (bppOf (descBpp d)).bits))

/-- Both sides lie in 0 .. 16383, read as signed numbers (41_descriptor_validator.md rule R136). -/
def State.geometryLegal (s : State) : Prop :=
  0 ≤ s.width.toInt ∧ s.width.toInt < 16384 ∧ 0 ≤ s.height.toInt ∧ s.height.toInt < 16384

/-- The palette registers of an indexed job (41_descriptor_validator.md rule R148). -/
def State.paletteLegal (s : State) : Prop :=
  wordLegal s.palFmt ∧ s.palEnd.toNat < 2 ∧ 1 ≤ s.palCount.toNat ∧ s.palCount.toNat ≤ s.cfg.palMax ∧
    descSpecial s.palFmt = 0 ∧ descCh s.palFmt ≠ 14 ∧ descBpp s.palFmt ≠ 1

/-- A reordering that handles a `w` by `h` grid of elements of `eb` bits (48_reorder.md rules R368, R372, R381, R384,
41_descriptor_validator.md rule R151 sub 4, 5, 8 to 11). -/
def reorderable (c : Config) (ro : Reorder) (w h eb : Nat) : Prop :=
  match ro with
  | .linear => True
  | .morton => True
  | .tile3ds => w * h ≠ 0 → w % 8 = 0 ∧ h % 8 = 0
  | .psp => c.implReorderPsp = true ∧ eb ≠ 24 ∧ (w * h ≠ 0 → pspGeometry w h eb = true)
  | .switch => c.implReorderSwitch = true ∧ eb ≠ 4 ∧ eb ≠ 24 ∧ (w * h ≠ 0 → switchGeometry c w h eb = true)

/-- A special kind with a reordering that the engine performs on a `w` by `h` picture (48_reorder.md rule R379, 47_pvrtc.md
rule R334). -/
def blocksLegal (c : Config) (k : Special) (ro : Reorder) (w h : Nat) : Prop :=
  ro ≠ .tile3ds ∧ (ro = .psp → c.implReorderPsp = true) ∧ (ro = .switch → c.implReorderSwitch = true) ∧
    (isPvrt k = true → ro = .linear) ∧
    (w * h ≠ 0 →
      reorderable c ro (blocksX k w) (blocksY k h) (8 * blockBytes k) ∧
      (isPvrt k = true → pvrtGeometry k w h = true))

/-- The input's reordering is one the engine performs (41_descriptor_validator.md rule R151 sub 4 to 12). -/
def State.inputSupported (s : State) : Prop :=
  ∀ ro, reorderOf (descReorder s.inFmt) = some ro →
    (∀ k, s.special = some k → blocksLegal s.cfg k ro s.w s.h) ∧
    (s.special = none → reorderable s.cfg ro s.w s.h s.inBpp.bits)

/-- A job that `VALIDATE` accepts (41_descriptor_validator.md rule R135). -/
def State.legalJob (s : State) : Prop :=
  s.geometryLegal ∧ wordLegal s.inFmt ∧ wordLegal s.outFmt ∧ s.inEnd.toNat < 2 ∧ s.outEnd.toNat < 2 ∧
    (s.isIndexed = true → s.paletteLegal) ∧
    descSpecial s.outFmt = 0 ∧ descReorder s.outFmt = 0 ∧ descCh s.outFmt ≠ 14 ∧ s.inputSupported ∧
    (s.area ≠ 0 → s.needed ≤ s.inLen.toNat)

/-! ## The checks of VALIDATE, one by one, in the words of the spec -/

/-- A check of `VALIDATE`: whether it fails, and the error it then reports (60_exceptions.md rule R412). -/
structure Check where
  fails : Bool
  error : ErrCode
  info : Nat
  deriving DecidableEq, Repr

/-- Some channel that the layout of a word names is not padding and has width 0 (41_descriptor_validator.md rule R145). -/
def zeroWidth (d : DescWord) : Bool :=
  match chOf (descCh d) with
  | some (.plain lay) => lay.channels.any fun c => c != .x && (plainOf d).width c == 0
  | some .indexed => false
  | none => false

/-- The widths of the channels that the layout of a word names exceed the bpp-class (41_descriptor_validator.md rule R146). -/
def sumTooWide (d : DescWord) : Bool :=
  match chOf (descCh d) with
  | some (.plain lay) => decide ((bppOf (descBpp d)).bits < (lay.channels.map (plainOf d).width).sum)
  | some .indexed => false
  | none => false

/-- The checks of a descriptor word in the order of 41_descriptor_validator.md rules R138 to R146, for register `which`. -/
def wordChecks (d : DescWord) (which : Nat) : List Check :=
  let plain := descSpecial d == 0
  let bad := fun (p : Bool) (sub : Nat) => (⟨p, .validation, sub + 256 * which⟩ : Check)
  [bad (decide (descReserved d ≠ 0)) 2, bad (decide (18 < descSpecial d)) 3, bad (decide (4 < descReorder d)) 4,
   bad (decide (1 < descFilter d)) 5, bad (plain && decide (descBpp d = 0 ∨ descBpp d = 7)) 7,
   bad (plain && decide (descCh d = 0 ∨ 14 < descCh d)) 8,
   bad (plain && decide (16 < descRbits d ∨ 16 < descGbits d ∨ 16 < descBbits d ∨ 16 < descAbits d)) 9,
   bad (plain && decide (descCh d = 14 ∧ 2 < descBpp d)) 10, bad (plain && zeroWidth d) 11,
   bad (plain && sumTooWide d) 12]

/-- The checks of the palette registers of an indexed job (41_descriptor_validator.md rule R148). -/
def State.paletteChecks (s : State) : List Check :=
  wordChecks s.palFmt 3 ++
    [⟨decide (2 ≤ s.palEnd.toNat), .validation, 0x306⟩,
     ⟨decide (s.palCount = 0 ∨ s.cfg.palMax < s.palCount.toNat ∨ descSpecial s.palFmt ≠ 0 ∨ descCh s.palFmt = 14 ∨
        descBpp s.palFmt = 1), .validation, 0x30D⟩]

/-- A length of `0 .. 16383` is a unit times a power of two. -/
def powerOf2Times (unit n : Nat) : Bool := (List.range 14).any fun a => n == unit * 2 ^ a

/-- The checks for what the engine does not do, the rows of the table of 41_descriptor_validator.md rule R151. The
grid is the block grid for a special kind, else the picture (48_reorder.md rule R366). -/
def State.supportChecks (s : State) : List Check :=
  let ro := reorderOf (descReorder s.inFmt)
  let gw := match s.special with | some k => blocksX k s.w | none => s.w
  let gh := match s.special with | some k => blocksY k s.h | none => s.h
  let eb := match s.special with | some k => 8 * blockBytes k | none => s.inBpp.bits
  let bh := switchBlockHeight s.cfg gh
  let pvrt2 := s.special == some .pvrt2
  let pvrt4 := s.special == some .pvrt4
  let area := decide (s.area ≠ 0)
  let bad := fun (p : Bool) (sub : Nat) => (⟨p, .unsupported, sub⟩ : Check)
  [bad (decide (descSpecial s.outFmt ≠ 0)) 1, bad (decide (descReorder s.outFmt ≠ 0)) 2,
   bad (decide (descCh s.outFmt = 14)) 3, bad (ro == some .psp && !s.cfg.implReorderPsp) 4,
   bad (ro == some .switch && !s.cfg.implReorderSwitch) 5, bad (s.special != none && ro == some .tile3ds) 6,
   bad ((pvrt2 || pvrt4) && ro != some .linear) 7,
   bad (s.special == none &&
     ((ro == some .psp && s.inBpp == .b24) || (ro == some .switch && (s.inBpp == .b4 || s.inBpp == .b24)))) 8,
   bad (ro == some .tile3ds && area && decide (s.w % 8 ≠ 0 ∨ s.h % 8 ≠ 0)) 9,
   bad (ro == some .psp && area && decide (¬ (128 % eb = 0 ∧ gw % (128 / eb) = 0 ∧ gh % 8 = 0))) 10,
   bad (ro == some .switch && area &&
     decide (¬ (eb ∈ [8, 16, 32, 64, 128] ∧ gw * (eb / 8) % 64 = 0 ∧ gh % (8 * bh) = 0))) 11,
   bad ((pvrt2 || pvrt4) && area && !(powerOf2Times (if pvrt2 then 8 else 4) s.w && powerOf2Times 4 s.h)) 12]

/-- Every check of `VALIDATE`, in the order of 41_descriptor_validator.md rule R135 and 60_exceptions.md rule R415. -/
def State.checks (s : State) : List Check :=
  [⟨decide (¬ (0 ≤ s.width.toInt ∧ s.width.toInt < 16384 ∧ 0 ≤ s.height.toInt ∧ s.height.toInt < 16384)), .validation,
      1⟩] ++
    wordChecks s.inFmt 1 ++ wordChecks s.outFmt 2 ++
    [⟨decide (2 ≤ s.inEnd.toNat), .validation, 0x106⟩, ⟨decide (2 ≤ s.outEnd.toNat), .validation, 0x206⟩] ++
    (s.paletteChecks.map fun k => { k with fails := s.isIndexed && k.fails }) ++ s.supportChecks ++
    [⟨decide (s.area ≠ 0 ∧ s.inLen.toNat < s.needed), .truncated, s.needed⟩]

/-! ## Tiles -/

/-- The tile of a block of a special kind that decodes block by block (30_encoding.md rule R80, 40_pipeline.md rule
R116); PVRTC has none. -/
def tileOf (c : Config) : Special → Nat → List Pixel
  | .etc1 => Machine.etc1 c | .etc1a4 => Machine.etc1a4 c | .dxt1 => Machine.dxt1 | .dxt1alt => Machine.dxt1alt c
  | .dxt1psp => Machine.dxt1psp | .dxt3 => Machine.dxt3 | .dxt3psp => Machine.dxt3psp | .dxt5 => Machine.dxt5
  | .dxt5psp => Machine.dxt5psp | .rgtc1 => Machine.rgtc1 | .rgtc1s => Machine.rgtc1s c | .rgtc2 => Machine.rgtc2
  | .rgtc2s => Machine.rgtc2s c | .bptc => bc7 c | .bptcf => Machine.bptcf c false | .bptcsf => Machine.bptcf c true
  | .pvrt2 => fun _ => [] | .pvrt4 => fun _ => []

/-- The four bytes of a canonical pixel (42_channel_codec.md rule R181). -/
def canonicalBytes (e : Endian) (p : Pixel) : List Byte :=
  match e with
  | .little => [p.b, p.g, p.r, p.a]
  | .big => [p.a, p.r, p.g, p.b]

/-! ## Runs and what they leave alone -/

/-- A job has ended (40_pipeline.md rule R122). -/
def State.ended (s : State) : Prop := s.status = .done ∨ s.status = .error

/-- What the engine only reads is as it was: configuration, job registers and input buffers (10_state.md rule R21,
20_memory.md rule R63). -/
def State.sameInputs (s t : State) : Prop :=
  t.cfg = s.cfg ∧ t.width = s.width ∧ t.height = s.height ∧ t.inFmt = s.inFmt ∧ t.inEnd = s.inEnd ∧
    t.outFmt = s.outFmt ∧ t.outEnd = s.outEnd ∧ t.palFmt = s.palFmt ∧ t.palEnd = s.palEnd ∧
    t.palCount = s.palCount ∧ t.inLen = s.inLen ∧ t.palLen = s.palLen ∧ t.inBuf = s.inBuf ∧ t.pal = s.pal ∧
    t.written = s.written

/-- Two jobs are given equal registers and input bytes: what 40_pipeline.md rule R123 names. -/
def State.sameJobInputs (s t : State) : Prop :=
  t.cfg = s.cfg ∧ t.width = s.width ∧ t.height = s.height ∧ t.inFmt = s.inFmt ∧ t.inEnd = s.inEnd ∧
    t.outFmt = s.outFmt ∧ t.outEnd = s.outEnd ∧ t.palFmt = s.palFmt ∧ t.palEnd = s.palEnd ∧
    t.palCount = s.palCount ∧ t.inLen = s.inLen ∧ t.palLen = s.palLen ∧ t.pal = s.pal ∧
    ∀ a, a < s.needed → t.inBuf.read a = s.inBuf.read a

/-- The outputs and their lengths are as they were (20_memory.md rule R64). -/
def State.sameOutputs (s t : State) : Prop :=
  t.outLen = s.outLen ∧ t.tblLen = s.tblLen ∧ t.out = s.out ∧ t.tbl = s.tbl

/-- The status registers are as they were (10_state.md rule R30). -/
def State.sameStatus (s t : State) : Prop :=
  t.status = s.status ∧ t.errCode = s.errCode ∧ t.errInfo = s.errInfo

/-- The internal job state is discarded (10_state.md rule R36). -/
def State.jobDiscarded (t : State) : Prop :=
  t.cur = 0 ∧ t.canon = [] ∧ t.idxBuf = [] ∧ t.tables = [] ∧ t.tile = [] ∧ t.fault = none

/-- What a stage in the middle of a job leaves alone: everything but `STAGE` and the internal job state. -/
def State.midJob (s t : State) : Prop :=
  s.sameInputs t ∧ s.sameOutputs t ∧ s.sameStatus t ∧ t.cmd = s.cmd ∧ t.jobs = s.jobs ∧ t.fault = s.fault

end Sys2Proof.Machine
end

