-- ==== Sys2Proof/Certificates/Slice0/Obligations.lean ====
section
/-! DEFINITION. The statements for the provers. -/

open Sys2Proof Sys2Proof.Machine

/-! ## Encoding and fetching -/

/-- 30_encoding.md rules R76 to R84, R89: every well-formed instruction, with every operand, is decoded from its own
word in its slot. -/
def Obligations.DecodeOfEncode : Prop :=
  ∀ i : Instr, i.wf = true → decode i.slot (encode i) = .ok i

/-- 30_encoding.md rules R76 to R83, R93, R94: words written out from the spec decode to the instructions they stand
for. -/
def Obligations.SpecWordsDecode : Prop :=
  decode .cmd 1 = .ok .start ∧ decode .cmd 2 = .ok .clear ∧
  decode .inOp 0x000000800014c50b = .ok (.chdecRgb ⟨.b16, 5, 6, 5, 0, .max⟩) ∧
  decode .inOp 0x000000000094a513 = .ok (.chdecRgba ⟨.b16, 5, 5, 5, 1, .zero⟩) ∧
  decode .inOp 0x0000000000000071 = .ok (.idx .b4) ∧
  decode .inOp 0x0000000830000000 = .ok (.blkDxt1 .morton) ∧
  decode .inReorder 0x0000008400000852 = .ok .reordTile3ds ∧
  decode .outFilter 0x000000200014c50b = .ok .filtDither ∧
  decode .outPack 0x0000008004210825 = .ok (.chencArgb ⟨.b32, 8, 8, 8, 8, .max⟩)

/-- 30_encoding.md rules R78, R80 to R82, R84, R85: a word with a reserved `SPECIAL`, `REORDER` or `FILTER` code or with any
of bits 63:40 set is no instruction in any descriptor slot, and a word without a special kind and without a layout is no
input or output operation. A reserved `BPP` code, or a width above 16 in a word that is not Indexed, gives an
instruction that is not well-formed. -/
def Obligations.ReservedWordsRefused : Prop :=
  ∀ (slot : Slot) (d : DescWord), slot = .inOp ∨ slot = .inReorder ∨ slot = .outFilter ∨ slot = .outPack →
    (descReserved d ≠ 0 ∨ 18 < descSpecial d ∨ 4 < descReorder d ∨ 1 < descFilter d →
      ∃ e, decode slot d = .error e) ∧
    (slot = .inOp ∨ slot = .outPack → descSpecial d = 0 → descCh d = 0 ∨ 14 < descCh d →
      ∃ e, decode slot d = .error e) ∧
    (slot = .inOp ∨ slot = .outPack → descSpecial d = 0 →
      descBpp d = 0 ∨ descBpp d = 7 ∨
        (descCh d ≠ 14 ∧ (16 < descRbits d ∨ 16 < descGbits d ∨ 16 < descBbits d ∨ 16 < descAbits d)) →
      ∀ i, decode slot d = .ok i → i.wf = false)

/-- 40_pipeline.md rule R112: in a job the step runs the instruction that the stage's descriptor word decodes to; between
jobs it runs the command in `CMD`, which it takes, and after a `START` the stages of the job, one after another, to the
end; without a command it does nothing. That `STAGE` says which register's word is next, that a step of a state inside
a job is one stage, and that a command stands in `CMD` for a step are the model's choices of log entries 1, 2 and
13. -/
def Obligations.StepRunsDecodedInstruction : Prop :=
  ∀ (s : State) (i : Instr),
    (s.status = .busy → s.stage = .validate → step s = exec .validate s) ∧
    (s.status = .busy → s.stage = .decode → decode .inOp s.inFmt = .ok i → step s = exec i s) ∧
    (s.status = .busy → s.stage = .reorder → decode .inReorder s.inFmt = .ok i → step s = exec i s) ∧
    (s.status = .busy → s.stage = .filter → decode .outFilter s.outFmt = .ok i → step s = exec i s) ∧
    (s.status = .busy → s.stage = .pack → s.isIndexed = false → decode .outPack s.outFmt = .ok i → step s = exec i s) ∧
    (∀ c : Code2, s.status ≠ .busy → s.cmd = some c → decode .cmd (c.setWidth 64) = .ok i →
      step s = andThen (exec i { s with cmd := none }) (runStages 5)) ∧
    (∀ n, s.status = .busy → runStages (n + 1) s = andThen (step s) (runStages n)) ∧
    (∀ n, s.status ≠ .busy → runStages n s = .next s) ∧
    (s.status ≠ .busy → s.cmd = none → step s = .next s)

/-! ## Invariants of every step -/

/-- The buffers stay in canonical form, the arrays keep `PAL_MAX` elements, `BUSY` holds exactly while a stage runs, the
internal job state exists only in a job, `ERR_CODE` is non-zero exactly in `ERROR` and `ERR_INFO` is 0 outside it
(20_memory.md rule R50, 10_state.md rules R21, R30, R36, 40_pipeline.md rule R110): every step keeps it, from every
state. -/
def Obligations.StepKeepsInvariant : Prop :=
  ∀ s t : State, s.Inv → step s = .next t → t.Inv

/-- The state after reset meets the invariant, whatever the parameters. -/
def Obligations.ResetMeetsInvariant : Prop :=
  (∀ c : Config, (State.resetOf c).Inv) ∧ State.reset.Inv

/-- What the host may do between steps keeps the invariant (10_state.md rules R21, R32, 20_memory.md rule R50,
70_reset_and_hazards.md rules R440, R444). -/
def Obligations.HostAccessKeepsInvariant : Prop :=
  ∀ s t : State, s.Inv →
    (∀ r v, hostWriteReg r v s = .next t → t.Inv) ∧
    (∀ c, hostCommand c s = .next t → t.Inv) ∧
    (∀ a v, hostPutIn a v s = .next t → t.Inv) ∧
    (∀ k a v, hostPutPal k a v s = .next t → t.Inv) ∧
    (∀ a v, hostPutOut a v s = .next t → t.Inv) ∧
    (∀ k a v, hostPutTbl k a v s = .next t → t.Inv) ∧
    (hostReset s).Inv

/-- 10_state.md rule R21, 20_memory.md rule R63: no step changes a job register, an input buffer or a parameter. -/
def Obligations.StepKeepsJobRegisters : Prop :=
  ∀ s t : State, step s = .next t → s.sameInputs t

/-- 20_memory.md rule R64: only the step that ends a job in `DONE` changes `OUT`, `TBL[k]`, `OUT_LEN` or `TBL_LEN[k]`. -/
def Obligations.OutputsChangeOnlyAtDone : Prop :=
  ∀ s t : State, step s = .next t → (t.status = .done → s.status = .done) → s.sameOutputs t

/-- 10_state.md rules R31, R32, 70_reset_and_hazards.md rules R453, R456: `IDLE` is left only by `START`, in one step to
the end of its job; `DONE` and `ERROR` only by `CLEAR`, into `IDLE`; `BUSY` is never seen after a step from outside a job,
and a job is never abandoned. -/
def Obligations.StatusTransitions : Prop :=
  ∀ s t : State, step s = .next t →
    (s.status = .idle → t.status ≠ .idle → s.cmd = some 1 ∧ t.ended) ∧
    (s.status = .done ∨ s.status = .error → t.status ≠ s.status → s.cmd = some 2 ∧ t.status = .idle) ∧
    (s.status ≠ .busy → t.status ≠ .busy) ∧
    (s.status = .busy → t.status ≠ .idle)

/-! ## Whole jobs -/

/-- 40_pipeline.md rules R110, R112, 70_reset_and_hazards.md rules R456, R457: a `START` in `IDLE` runs one job to its end in
one step of the model, with no fault and no refusal, whatever the registers and buffers hold, and at the end either `DONE`
with `ERR_CODE = 0`, or `ERROR` with `ERR_CODE != 0` and no output written. The step runs the five stages at most, `BUSY` in between: the model's division of log entry 1. -/
def Obligations.EveryJobEnds : Prop :=
  ∀ s : State, s.status = .idle → s.cmd = some 1 →
    ∃ b t n, exec .start { s with cmd := none } = .next b ∧ b.status = .busy ∧ b.stage = .validate ∧ 1 ≤ n ∧ n ≤ 5 ∧
      (∀ m, m < n → ∃ u, runStages m b = .next u ∧ u.status = .busy) ∧ runStages n b = .next t ∧ step s = .next t ∧
      ((t.status = .done ∧ t.errCode = .none ∧ t.errInfo = 0) ∨
       (t.status = .error ∧ t.errCode ≠ .none ∧ s.sameOutputs t))

/-- 60_exceptions.md rules R411, R416: after a raise the outputs, their lengths, the job registers and the input buffers
hold what they held before `START`, the internal state is discarded and `STAGE` is `S_ERROR` (rule R411). That the
counter `jobs`, and with it the free bytes the host reads beyond the lengths, is as it was is the model's (log entry 5),
and that the command is taken, so that `CMD` holds nothing, is that of log entry 13. -/
def Obligations.FailedJobLeavesNoTrace : Prop :=
  ∀ s t : State, s.status = .idle → s.cmd = some 1 → step s = .next t → t.status = .error →
    s.sameInputs t ∧ s.sameOutputs t ∧ t.jobDiscarded ∧ t.stage = .error ∧ t.cmd = none ∧ t.jobs = s.jobs ∧
    (∀ a, hostReadOut a t = hostReadOut a { s with cmd := none }) ∧
    (∀ k a, hostReadTbl k a t = hostReadTbl k a { s with cmd := none })

/-- 40_pipeline.md rule R123, 70_reset_and_hazards.md rule R445: two jobs with equal registers, equal needed bytes of `IN`
and equal palettes end alike, whatever the outputs, the bytes of `IN` beyond and the history before them. -/
def Obligations.JobIsAFunction : Prop :=
  ∀ s u t v : State, s.Inv → u.Inv → s.status = .idle → u.status = .idle → s.cmd = some 1 → u.cmd = some 1 →
    s.sameJobInputs u → step s = .next t → step u = .next v →
    v.status = t.status ∧ v.errCode = t.errCode ∧ v.errInfo = t.errInfo ∧
    (t.status = .done →
      v.outLen = t.outLen ∧ (∀ a, a < t.outLen.toNat → v.out.read a = t.out.read a) ∧ v.tblLen = t.tblLen ∧
      ∀ k a, a < (t.tblLen.getD k 0).toNat → (v.tbl.getD k []).read a = (t.tbl.getD k []).read a)

/-! ## Commands, errors and reset -/

/-- 40_pipeline.md rule R110, 10_state.md rules R33, R40, 70_reset_and_hazards.md rules R442, R443: `START` in `IDLE` begins a
job with an empty internal state and changes nothing else; outside `IDLE` it is ignored. The host's write of `CMD = 1` in
`IDLE` is the step of that `START` when the host has written every register without a default that the job reads, and is
refused otherwise. That the instruction ends in `BUSY`, the stages following in the same step, is the model's choice of log
entry 1; that the refusal stands at the host's write and the record of written registers are the model's (log entry 3), and
so is the counter `jobs` (log entry 5). -/
def Obligations.StartBeginsJob : Prop :=
  ∀ s : State,
    let reads := fun r : JobReg =>
      r ∈ [JobReg.width, .height, .inFmt, .inEnd, .inLen] ∨
        (s.isIndexed = true ∧
          (r = .palFmt ∨ r = .palEnd ∨ ∃ k, k < s.palCount.toNat ∧ k < s.cfg.palMax ∧ r = .palLen k))
    (s.status = .idle →
      ∃ t, exec .start s = .next t ∧ t.status = .busy ∧ t.stage = .validate ∧ t.jobDiscarded ∧ t.jobs = s.jobs ∧
        t.errCode = s.errCode ∧ t.errInfo = s.errInfo ∧ t.cmd = s.cmd ∧ s.sameInputs t ∧ s.sameOutputs t) ∧
    (s.status ≠ .idle → exec .start s = .next s) ∧
    (s.status = .idle → s.cmd = none → (∀ r, reads r → r ∈ s.written) → hostCommand 1 s = step { s with cmd := some 1 }) ∧
    (s.status = .idle → s.cmd = none → (∃ r, reads r ∧ r ∉ s.written) → hostCommand 1 s = .refused .bootIncomplete)

/-- 10_state.md rule R32, 60_exceptions.md rule R417: `CLEAR` in `DONE` or `ERROR` sets `STATUS.STATE`, `ERR_CODE` and
`ERR_INFO` and changes nothing else; in any other state it is ignored. -/
def Obligations.ClearReturnsToIdle : Prop :=
  ∀ s : State,
    (s.status = .done ∨ s.status = .error →
      exec .clear s = .next { s with status := .idle, errCode := .none, errInfo := 0 }) ∧
    (s.status = .idle ∨ s.status = .busy → exec .clear s = .next s)

/-- 30_encoding.md rule R89, 10_state.md rule R32, 70_reset_and_hazards.md rule R453: command codes 0 and 3 are ignored. A
write of `CMD` by the host acts at the write (log entry 13): it is the step of that command (for `START` in `IDLE` see
`StartBeginsJob`), and the write is ignored without effect in `BUSY`, with codes 0 and 3, with `START` outside `IDLE` and with `CLEAR` outside `DONE` and `ERROR`. -/
def Obligations.OtherCommandsIgnored : Prop :=
  ∀ (s : State) (c : Code2),
    (s.status ≠ .busy → s.cmd = some c → c = 0 ∨ c = 3 → step s = .next { s with cmd := none }) ∧
    (s.status ≠ .busy → s.cmd = none → c ≠ 1 ∨ s.status ≠ .idle → hostCommand c s = step { s with cmd := some c }) ∧
    (s.status = .busy → hostCommand c s = .next s) ∧
    (s.status ≠ .busy → s.cmd = none →
      c = 0 ∨ c = 3 ∨ (c = 1 ∧ s.status ≠ .idle) ∨ (c = 2 ∧ s.status = .idle) → hostCommand c s = .next s)

/-- 60_exceptions.md rules R411, R416: raising writes `STATUS.STATE`, `ERR_CODE`, `ERR_INFO` and `STAGE`, ends the job and
changes nothing the host can read beside them. -/
def Obligations.RaiseRecordsTheError : Prop :=
  ∀ (s : State) (e : ErrCode) (v : Word32),
    (s.raise e v).status = .error ∧ (s.raise e v).errCode = e ∧ (s.raise e v).errInfo = v ∧
    (s.raise e v).stage = .error ∧ (s.raise e v).jobDiscarded ∧ s.sameInputs (s.raise e v) ∧
    s.sameOutputs (s.raise e v) ∧ (s.raise e v).cmd = s.cmd

/-- 10_state.md rule R39, 70_reset_and_hazards.md rule R441: the registers that have a reset value, for every choice of
parameters. The values of the registers the rules call unspecified are the model's (log entry 3) and are not stated. -/
def Obligations.ResetValues : Prop :=
  ∀ c : Config,
    let s := State.resetOf c
    s.status = .idle ∧ s.errCode = .none ∧ s.errInfo = 0 ∧ s.outLen = 0 ∧
    s.tblLen = List.replicate c.palMax 0 ∧ s.outFmt = 0x0000008004210825 ∧ s.outEnd = c.nativeEnd.code ∧
    s.palCount = 0 ∧ s.stage = .idle ∧ s.cmd = none ∧ s.jobDiscarded

/-- 70_reset_and_hazards.md rule R440: a reset has the same effect in every state, a running job included. That it also
gives one value each time to the registers and buffers which the rules leave unspecified is the model's choice of log
entries 3 and 14; the counter `jobs` is the model's (log entry 5). -/
def Obligations.ResetAlwaysTheSame : Prop :=
  ∀ s u : State, s.cfg = u.cfg →
    { hostReset s with jobs := 0 } = { hostReset u with jobs := 0 } ∧
    { hostReset s with jobs := 0 } = State.resetOf s.cfg

/-! ## VALIDATE -/

/-- 41_descriptor_validator.md rule R135, 40_pipeline.md rule R114: `VALIDATE` passes exactly the legal jobs and then moves
on, or ends a zero-area job in `DONE`; every other job it ends with an error of one of three kinds. -/
def Obligations.ValidatePassesLegalJobs : Prop :=
  ∀ s : State,
    (s.legalJob → s.area ≠ 0 → exec .validate s = .next { s with stage := .decode }) ∧
    (s.legalJob → s.area = 0 →
      ∃ t, exec .validate s = .next t ∧ t.status = .done ∧ t.stage = .done ∧ t.errCode = .none ∧ t.errInfo = 0 ∧
        t.outLen = 0 ∧ t.tblLen = List.replicate s.tblLen.length 0 ∧ t.out = s.out ∧ t.tbl = s.tbl ∧
        t.jobDiscarded ∧ t.cmd = s.cmd ∧ s.sameInputs t) ∧
    (¬ s.legalJob →
      ∃ e v, (e = .validation ∨ e = .unsupported ∨ e = .truncated) ∧ exec .validate s = .next (s.raise e v))

/-- 60_exceptions.md rules R412, R415: of all the checks, in the spec's order, the first that fails is the one reported,
with its `ERR_INFO`; when none fails no error is raised. `State.checks` lists them in the words of the rules. That sub 8
of UnsupportedFormatError looks at plain and indexed inputs only is the reading of log entry 12. -/
def Obligations.ValidateReportsFirstError : Prop :=
  ∀ s : State,
    (∀ k, s.checks.find? Check.fails = some k →
      exec .validate s = .next (s.raise k.error (BitVec.ofNat 32 k.info))) ∧
    (s.checks.find? Check.fails = none →
      (s.area ≠ 0 → exec .validate s = .next { s with stage := .decode }) ∧
      (s.area = 0 → ∃ t, exec .validate s = .next t ∧ t.status = .done ∧ t.errCode = .none ∧ t.errInfo = 0))

/-! ## The channel codec -/

/-- 42_channel_codec.md rule R161: the properties of `resample`, for all widths 1 to 16. -/
def Obligations.ResampleProperties : Prop :=
  (∀ s d, 1 ≤ s → s ≤ 16 → 1 ≤ d → d ≤ 16 →
    resample 0 s d = 0 ∧ resample (2 ^ s - 1) s d = 2 ^ d - 1 ∧
    (∀ v, v < 2 ^ s → resample v s s = v) ∧
    (∀ v w, v ≤ w → w < 2 ^ s → resample v s d ≤ resample w s d)) ∧
  (∀ s v, 1 ≤ s → s ≤ 8 → v < 2 ^ s → resample (resample v s 8) 8 s = v) ∧
  (∀ s, 9 ≤ s → s ≤ 16 → ∃ v, v < 2 ^ s ∧ resample (resample v s 8) 8 s ≠ v) ∧
  resample 1 16 8 = 0

/-- 42_channel_codec.md rules R164 to R167, 20_memory.md rule R56: the raw sample `i` of each bpp-class in each byte
order, and the nibble order of 4-bit samples under the quirk. -/
def Obligations.SamplesAreReadAsBytes : Prop :=
  ∀ (c : Config) (m : Memory) (i : Nat) (e : Endian),
    (∀ n, n = 1 ∨ n = 2 ∨ n = 3 ∨ n = 4 ∨ n = 8 →
      readSample c m i (8 * n) .little = ((List.range n).map fun j => 256 ^ j * (m.read (i * n + j)).toNat).sum ∧
      readSample c m i (8 * n) .big =
        ((List.range n).map fun j => 256 ^ (n - 1 - j) * (m.read (i * n + j)).toNat).sum) ∧
    readSample c m i 4 e =
      (if i % 2 = 0 ↔ (c.nibbleSwapOnNative = true ∧ e = c.nativeEnd) then (m.read (i / 2)).toNat % 16
       else (m.read (i / 2)).toNat / 16)

/-- 42_channel_codec.md rules R169 to R173: what each of the thirteen layouts reads from a raw sample and what the force
policy supplies. -/
def Obligations.LayoutsDecodeTheirChannels : Prop :=
  ∀ (f : PlainFmt) (raw : Nat),
    let part := fun lo n => resample (bitsOf raw lo n) n 8
    let fill := if f.force = .max then 255 else 0
    let r := f.rbits
    let g := f.gbits
    let b := f.bbits
    let a := f.abits
    decodeSample .rgb f raw = pixelOf (part (b + g) r) (part b g) (part 0 b) fill ∧
    decodeSample .rgba f raw = pixelOf (part (a + b + g) r) (part (a + b) g) (part a b) (part 0 a) ∧
    decodeSample .bgra f raw = pixelOf (part a r) (part (a + r) g) (part (a + r + g) b) (part 0 a) ∧
    decodeSample .argb f raw = pixelOf (part (b + g) r) (part b g) (part 0 b) (part (b + g + r) a) ∧
    decodeSample .abgr f raw = pixelOf (part 0 r) (part r g) (part (r + g) b) (part (r + g + b) a) ∧
    decodeSample .rgbx f raw = pixelOf (part (a + b + g) r) (part (a + b) g) (part a b) fill ∧
    decodeSample .bgrx f raw = pixelOf (part a r) (part (a + r) g) (part (a + r + g) b) fill ∧
    decodeSample .xrgb f raw = pixelOf (part (b + g) r) (part b g) (part 0 b) fill ∧
    decodeSample .xbgr f raw = pixelOf (part 0 r) (part r g) (part (r + g) b) fill ∧
    decodeSample .l f raw = pixelOf (part 0 r) (part 0 r) (part 0 r) fill ∧
    decodeSample .a f raw = pixelOf fill fill fill (part 0 a) ∧
    decodeSample .la f raw = pixelOf (part a r) (part a r) (part a r) (part 0 a) ∧
    decodeSample .al f raw = pixelOf (part 0 r) (part 0 r) (part 0 r) (part r a)

/-- 42_channel_codec.md rule R170, 40_pipeline.md rule R112: each of the thirteen `CHDEC` instructions (chdecRgb, chdecRgba,
chdecBgra, chdecArgb, chdecAbgr, chdecRgbx, chdecBgrx, chdecXrgb, chdecXbgr, chdecL, chdecA, chdecLa, chdecAl, which
`chdecOf` names) decodes the `W*H` samples of `IN` and changes only `CANON`, `CUR` and `STAGE`. -/
def Obligations.ChdecCompletes : Prop :=
  ∀ (lay : Layout) (f : PlainFmt) (e : Endian) (s : State), f.wf lay = true → endianOf s.inEnd = some e →
    sampleBytes s.area f.bpp.bits ≤ s.inLen.toNat →
    ∃ t, exec (chdecOf lay f) s = .next t ∧ t.stage = .reorder ∧ t.canon.length = s.area ∧
      (∀ i, i < s.area → t.canon[i]? = some (decodeSample lay f (readSample s.cfg s.inBuf i f.bpp.bits e))) ∧
      t.cur = BitVec.ofNat 32 (sampleBytes s.area f.bpp.bits) ∧
      t.idxBuf = s.idxBuf ∧ t.tables = s.tables ∧ t.tile = s.tile ∧ s.midJob t

/-- 42_channel_codec.md rules R169, R176, R178, R179: the raw sample each of the thirteen layouts packs, under the default
`LUMA_ENCODE`. -/
def Obligations.LayoutsPackTheirChannels : Prop :=
  ∀ (c : Config) (f : PlainFmt) (p : Pixel), c.tables = none →
    let part := fun (v : Byte) n => resample v.toNat 8 n
    let pad := if f.force = .max then 2 ^ f.abits - 1 else 0
    let luma := resample ((p.r.toNat + p.g.toNat + p.b.toNat) / 3) 8 f.rbits
    let r := f.rbits
    let g := f.gbits
    let b := f.bbits
    let a := f.abits
    encodeSample c .rgb f p = part p.r r * 2 ^ (g + b) + part p.g g * 2 ^ b + part p.b b ∧
    encodeSample c .rgba f p = part p.r r * 2 ^ (g + b + a) + part p.g g * 2 ^ (b + a) + part p.b b * 2 ^ a + part p.a a ∧
    encodeSample c .bgra f p = part p.b b * 2 ^ (g + r + a) + part p.g g * 2 ^ (r + a) + part p.r r * 2 ^ a + part p.a a ∧
    encodeSample c .argb f p = part p.a a * 2 ^ (r + g + b) + part p.r r * 2 ^ (g + b) + part p.g g * 2 ^ b + part p.b b ∧
    encodeSample c .abgr f p = part p.a a * 2 ^ (b + g + r) + part p.b b * 2 ^ (g + r) + part p.g g * 2 ^ r + part p.r r ∧
    encodeSample c .rgbx f p = part p.r r * 2 ^ (g + b + a) + part p.g g * 2 ^ (b + a) + part p.b b * 2 ^ a + pad ∧
    encodeSample c .bgrx f p = part p.b b * 2 ^ (g + r + a) + part p.g g * 2 ^ (r + a) + part p.r r * 2 ^ a + pad ∧
    encodeSample c .xrgb f p = pad * 2 ^ (r + g + b) + part p.r r * 2 ^ (g + b) + part p.g g * 2 ^ b + part p.b b ∧
    encodeSample c .xbgr f p = pad * 2 ^ (b + g + r) + part p.b b * 2 ^ (g + r) + part p.g g * 2 ^ r + part p.r r ∧
    encodeSample c .l f p = luma ∧
    encodeSample c .a f p = part p.a a ∧
    encodeSample c .la f p = luma * 2 ^ a + part p.a a ∧
    encodeSample c .al f p = part p.a a * 2 ^ r + luma

/-- 42_channel_codec.md rule R176, 20_memory.md rule R54, 40_pipeline.md rule R112: each of the thirteen `CHENC`
instructions (chencRgb, chencRgba, chencBgra, chencArgb, chencAbgr, chencRgbx, chencBgrx, chencXrgb, chencXbgr, chencL,
chencA, chencLa, chencAl, which `chencOf` names) writes the packed samples to the first `ceil(W*H*bpp/8)` bytes of `OUT`,
no other byte of any buffer, and ends the job. That every `TBL_LEN[k]` is 0 then, because the job writes no table (rule
R122), is the reading of log entry 9; the counter `jobs` is the model's (log entry 5). -/
def Obligations.ChencCompletes : Prop :=
  ∀ (lay : Layout) (f : PlainFmt) (e : Endian) (s : State), f.wf lay = true → endianOf s.outEnd = some e →
    s.out.wf = true →
    let n := sampleBytes s.area f.bpp.bits
    let raws := (List.range s.area).map fun i => encodeSample s.cfg lay f (s.canon.getD i fillPixel)
    ∃ t, exec (chencOf lay f) s = .next t ∧ t.status = .done ∧ t.errCode = .none ∧ t.errInfo = 0 ∧ t.stage = .done ∧
      t.outLen = BitVec.ofNat 32 n ∧
      (∀ a, t.out.read a =
        if a < n then (writeSamples s.cfg f.bpp.bits e raws).getD a 0 else s.out.read a) ∧
      t.tblLen = List.replicate s.tblLen.length 0 ∧ t.tbl = s.tbl ∧ t.jobDiscarded ∧ t.cmd = s.cmd ∧
      t.jobs = s.jobs + 1 ∧ s.sameInputs t

/-- 42_channel_codec.md rule R184 (property T1 of the source): a sample whose named channels are 1 to 8 bits wide, whose
spare bits are 0 and whose padding bits are the pad value comes back from decoding and packing unchanged. -/
def Obligations.SampleRoundTrip : Prop :=
  ∀ (c : Config) (lay : Layout) (f : PlainFmt) (raw : Nat), c.tables = none → f.wf lay = true →
    (∀ ch ∈ lay.channels, ch ≠ .x → f.width ch ≤ 8) →
    raw < 2 ^ (lay.channels.map f.width).sum →
    (∀ g ∈ bitGroups raw (channelWidths lay f), g.1 = .x →
      g.2 = if f.force = .max then 2 ^ f.abits - 1 else 0) →
    encodeSample c lay f (decodeSample lay f raw) = raw

/-- 42_channel_codec.md rules R175, R177: reading the samples a stream was written from gives them back, in either byte
order and nibble order, and the stream has `ceil(n*bpp/8)` bytes (20_memory.md rule R54). -/
def Obligations.WrittenSamplesReadBack : Prop :=
  ∀ (c : Config) (b : Bpp) (e : Endian) (raws : List Nat), b.legal = true → (∀ r ∈ raws, r < 2 ^ b.bits) →
    (writeSamples c b.bits e raws).length = sampleBytes raws.length b.bits ∧
    ∀ i, i < raws.length →
      readSample c (Memory.writeBytes [] 0 (writeSamples c b.bits e raws)) i b.bits e = raws.getD i 0

/-! ## Indexed jobs -/

/-- 42_channel_codec.md rule R188: `IDX` reads the indices and resolves the palettes when every index is covered, and
changes only `IDXBUF`, `TABLE`, `CUR` and `STAGE`. -/
def Obligations.IdxCompletes : Prop :=
  ∀ (b : Bpp) (e pe : Endian) (lay : Layout) (s : State), b.indexable = true → endianOf s.inEnd = some e →
    endianOf s.palEnd = some pe → s.paletteLegal → chOf (descCh s.palFmt) = some (.plain lay) →
    sampleBytes s.area b.bits ≤ s.inLen.toNat →
    (∀ k, k < s.palCount.toNat → ∀ i, i < s.area → readSample s.cfg s.inBuf i b.bits e < s.entries b.bits k) →
    ∃ t, exec (.idx b) s = .next t ∧ t.stage = .reorder ∧ t.idxBuf.length = s.area ∧
      (∀ i, i < s.area → t.idxBuf[i]? = some (BitVec.ofNat 8 (readSample s.cfg s.inBuf i b.bits e))) ∧
      t.tables.length = s.palCount.toNat ∧
      (∀ k, k < s.palCount.toNat →
        t.tables[k]? = some (chdec s.cfg (s.pal.getD k []) lay (plainOf s.palFmt) pe (s.entries b.bits k))) ∧
      t.cur = BitVec.ofNat 32 (sampleBytes s.area b.bits) ∧ t.canon = s.canon ∧ t.tile = s.tile ∧ s.midJob t

/-- 42_channel_codec.md rule R192: an index stream whose largest index some palette does not cover raises
PaletteRangeError with that index and the smallest such palette, and nothing else changes. -/
def Obligations.IdxRaisesPaletteRange : Prop :=
  ∀ (b : Bpp) (e : Endian) (s : State) (m k : Nat), b.indexable = true → endianOf s.inEnd = some e → s.paletteLegal →
    sampleBytes s.area b.bits ≤ s.inLen.toNat →
    (∃ i, i < s.area ∧ readSample s.cfg s.inBuf i b.bits e = m) →
    (∀ i, i < s.area → readSample s.cfg s.inBuf i b.bits e ≤ m) →
    k < s.palCount.toNat → s.entries b.bits k ≤ m → (∀ j, j < k → m < s.entries b.bits j) →
    exec (.idx b) s = .next (s.raise .paletteRange (BitVec.ofNat 32 (m + 256 * k)))

/-- 42_channel_codec.md rules R181, R194: the pack stage of an indexed job writes one byte per pixel to `OUT` and the
canonical bytes of every table to its `TBL[k]`, sets the lengths, and writes no other byte. That `TBL_LEN[k]` is 0 where
the job has no table is the reading of log entry 9; the counter `jobs` is the model's (log entry 5). -/
def Obligations.IndexedPackWritesTables : Prop :=
  ∀ (s : State) (e : Endian), s.status = .busy → s.stage = .pack → s.isIndexed = true → endianOf s.outEnd = some e →
    s.buffersWf = true →
    ∃ t, step s = .next t ∧ t.status = .done ∧ t.errCode = .none ∧ t.errInfo = 0 ∧ t.stage = .done ∧
      t.outLen = BitVec.ofNat 32 s.area ∧
      (∀ a, t.out.read a = if a < s.area then s.idxBuf.getD a 0 else s.out.read a) ∧
      (∀ k table, k < s.cfg.palMax → s.tables[k]? = some table →
        t.tblLen[k]? = some (BitVec.ofNat 32 (4 * table.length)) ∧
        ∀ a, (t.tbl.getD k []).read a =
          if a < 4 * table.length then (canonicalBytes e (table.getD (a / 4) fillPixel)).getD (a % 4) 0
          else (s.tbl.getD k []).read a) ∧
      (∀ k, s.tables.length ≤ k → t.tbl.getD k [] = s.tbl.getD k []) ∧
      (∀ k, s.tables.length ≤ k → k < s.cfg.palMax → t.tblLen[k]? = some 0) ∧
      t.jobDiscarded ∧ t.cmd = s.cmd ∧ t.jobs = s.jobs + 1 ∧ s.sameInputs t

/-! ## Block codecs -/

/-- 40_pipeline.md rules R112, R117: each of the sixteen instructions blkEtc1, blkEtc1a4, blkDxt1, blkDxt1alt, blkDxt1psp,
blkDxt3, blkDxt3psp, blkDxt5, blkDxt5psp, blkRgtc1, blkRgtc1s, blkRgtc2, blkRgtc2s, blkBptc, blkBptcf and blkBptcsf (which
`blkOf` names) decodes the whole stream with every reordering the engine performs, and changes only `CANON`, `CUR`,
`TILE` and `STAGE`; every block decodes. -/
def Obligations.BlkCompletes : Prop :=
  ∀ (k : Special) (ro : Reorder) (s : State), isPvrt k = false → blocksLegal s.cfg k ro s.w s.h →
    specialBytes k s.w s.h ≤ s.inLen.toNat →
    ∃ t, exec (blkOf k ro) s = .next t ∧ t.stage = .reorder ∧ t.canon.length = s.area ∧
      t.cur = BitVec.ofNat 32 (specialBytes k s.w s.h) ∧
      (0 < blocksX k s.w * blocksY k s.h →
        t.tile = tileOf s.cfg k (blockAt s.inBuf (blocksX k s.w * blocksY k s.h - 1) (blockBytes k))) ∧
      t.idxBuf = s.idxBuf ∧ t.tables = s.tables ∧ s.midJob t

/-- 40_pipeline.md rule R117: a pixel of the picture shows the texel of the last block that the map sends to its place
in the block grid, and `(0,0,0,0)` where the map sends none. -/
def Obligations.BlkScattersTiles : Prop :=
  ∀ (k : Special) (ro : Reorder) (s t : State) (x y : Nat), isPvrt k = false → blocksLegal s.cfg k ro s.w s.h →
    specialBytes k s.w s.h ≤ s.inLen.toNat → exec (blkOf k ro) s = .next t → x < s.w → y < s.h →
    let side := tileW k
    let bx := blocksX k s.w
    let by_ := blocksY k s.h
    let lands := fun n => reordMap s.cfg ro n bx by_ (8 * blockBytes k) = some (y / side * bx + x / side)
    (∀ n, n < bx * by_ → lands n → (∀ m, n < m → m < bx * by_ → ¬ lands m) →
      t.canon[y * s.w + x]? =
        some ((tileOf s.cfg k (blockAt s.inBuf n (blockBytes k))).getD (y % side * side + x % side) fillPixel)) ∧
    ((∀ n, n < bx * by_ → ¬ lands n) → t.canon[y * s.w + x]? = some fillPixel)

/-- 47_pvrtc.md rules R330, R344, R345: `BLK.PVRT4` and `BLK.PVRT2` decode every pixel from the word grid and change only
`CANON` and `STAGE`. -/
def Obligations.PvrtCompletes : Prop :=
  ∀ s : State,
    (blocksLegal s.cfg .pvrt4 .linear s.w s.h → specialBytes .pvrt4 s.w s.h ≤ s.inLen.toNat →
      ∃ t, exec (.blkPvrt4 .linear) s = .next t ∧ t.stage = .reorder ∧ t.canon.length = s.area ∧
        (∀ x y, x < s.w → y < s.h →
          t.canon[y * s.w + x]? = some (pvrt4Pixel s.cfg (readGrid s.inBuf (s.w / 4) (s.h / 4)) x y)) ∧
        t.cur = s.cur ∧ t.idxBuf = s.idxBuf ∧ t.tables = s.tables ∧ t.tile = s.tile ∧ s.midJob t) ∧
    (blocksLegal s.cfg .pvrt2 .linear s.w s.h → specialBytes .pvrt2 s.w s.h ≤ s.inLen.toNat →
      ∃ t, exec (.blkPvrt2 .linear) s = .next t ∧ t.stage = .reorder ∧ t.canon.length = s.area ∧
        (∀ x y, x < s.w → y < s.h →
          t.canon[y * s.w + x]? = some (pvrt2Pixel s.cfg (readGrid s.inBuf (s.w / 8) (s.h / 4)) x y)) ∧
        t.cur = s.cur ∧ t.idxBuf = s.idxBuf ∧ t.tables = s.tables ∧ t.tile = s.tile ∧ s.midJob t)

/-- 60_exceptions.md rules R411, R412, 10_state.md rule R33: where a stage operation traps: on operands that `VALIDATE`
refuses each of the `CHDEC`, `CHENC`, `BLK` and `REORD` operations raises an error of `VALIDATE`'s, and a decode whose
stream is longer than `IN_LEN` a DataTruncatedError. No legal job reaches the first kind: it is the model's choice of
log entry 11. -/
def Obligations.StagesRaiseValidateErrors : Prop :=
  ∀ s : State,
    (∀ lay f, f.wf lay = false →
      ∃ a b, exec (chdecOf lay f) s = .next (s.raise .validation a) ∧
        exec (chencOf lay f) s = .next (s.raise .validation b)) ∧
    (∀ lay f, f.wf lay = true → endianOf s.inEnd = none →
      exec (chdecOf lay f) s = .next (s.raise .validation 0x106)) ∧
    (∀ lay f, f.wf lay = true → endianOf s.outEnd = none →
      exec (chencOf lay f) s = .next (s.raise .validation 0x206)) ∧
    (∀ lay f e, f.wf lay = true → endianOf s.inEnd = some e → s.inLen.toNat < sampleBytes s.area f.bpp.bits →
      exec (chdecOf lay f) s = .next (s.raise .truncated (BitVec.ofNat 32 (sampleBytes s.area f.bpp.bits)))) ∧
    (∀ k ro, ¬ blocksLegal s.cfg k ro s.w s.h →
      ∃ sub, 4 ≤ sub ∧ sub ≤ 12 ∧ exec (blkOf k ro) s = .next (s.raise .unsupported (BitVec.ofNat 32 sub))) ∧
    (∀ k ro, blocksLegal s.cfg k ro s.w s.h → s.inLen.toNat < specialBytes k s.w s.h →
      exec (blkOf k ro) s = .next (s.raise .truncated (BitVec.ofNat 32 (specialBytes k s.w s.h)))) ∧
    (∀ ro, descSpecial s.inFmt = 0 → ¬ reorderable s.cfg ro s.w s.h s.inBpp.bits →
      ∃ sub, 4 ≤ sub ∧ sub ≤ 11 ∧ exec (reordOf ro) s = .next (s.raise .unsupported (BitVec.ofNat 32 sub)))

/-- 47_pvrtc.md rules R332, R333, R337 to R341, R343: the value of every pixel of the PVRT4 and PVRT2 pictures of a word
grid, with the fields, the cell of a pixel, the bilinear sum, the weights and the blend written as the rules write them,
under the default weights. So, rule R354 (property T7 of the source), if all words have the same `A5` and `B5 = A5`,
every pixel is the upscaled colour, whatever the modulation (a punch-through code of PVRT4 makes its alpha 0); and the
worked pictures are (165, 90, 99, 255) in every pixel. -/
def Obligations.PvrtcPixelsFollowTheRules : Prop :=
  let field := fun v lo n : Nat => v / 2 ^ lo % 2 ^ n
  let four := fun v : Nat => 2 * v + v / 8
  let colA := fun v : Nat =>
    if field v 47 1 = 1 then [field v 42 5, field v 37 5, four (field v 33 4), 15]
    else [four (field v 40 4), four (field v 36 4), 4 * field v 33 3 + field v 33 3 / 2, 2 * field v 44 3]
  let colB := fun v : Nat =>
    if field v 63 1 = 1 then [field v 58 5, field v 53 5, field v 48 5, 15]
    else [four (field v 56 4), four (field v 52 4), four (field v 48 4), 2 * field v 60 3]
  let word := fun (g : WordGrid) (x y : Nat) => g.words.getD (twiddle g.nx g.ny (x % g.nx) (y % g.ny)) 0
  let sum := fun (g : WordGrid) (ww : Nat) (col : Nat → List Nat) (px py ch : Nat) =>
    let x := (px + ww * g.nx - ww / 2) / ww
    let y := (py + 4 * g.ny - 2) / 4
    let u := (px + ww * g.nx - ww / 2) % ww
    let v := (py + 4 * g.ny - 2) % 4
    let at_ := fun x y => (col (word g x y)).getD ch 0
    (4 - v) * (ww - u) * at_ x y + (4 - v) * u * at_ (x + 1) y + v * (ww - u) * at_ x (y + 1) + v * u * at_ (x + 1) (y + 1)
  let up4 := fun g col px py ch =>
    let t := sum g 4 col px py ch
    if ch = 3 then t / 16 + t else t / 64 + t / 2
  let up8 := fun g col px py ch =>
    let t := sum g 8 col px py ch
    if ch = 3 then t / 32 + t / 2 else t / 128 + t / 4
  let blend := fun m a b : Nat => (a * (8 - m) + b * m) / 8
  let code4 := fun (g : WordGrid) (px py : Nat) => field (word g (px / 4) (py / 4)) (2 * (4 * (py % 4) + px % 4)) 2
  let weight4 := fun (g : WordGrid) (px py : Nat) =>
    (if field (word g (px / 4) (py / 4)) 32 1 = 0 then [0, 3, 5, 8] else [0, 4, 4, 8]).getD (code4 g px py) 0
  let punch4 := fun (g : WordGrid) (px py : Nat) => field (word g (px / 4) (py / 4)) 32 1 = 1 ∧ code4 g px py = 2
  let stored := fun (g : WordGrid) (qx qy : Nat) =>
    let v := word g (qx / 8) (qy / 4)
    let i := 4 * (qy % 4) + qx % 8 / 2
    let low := if i = 0 then field v 1 1 else if i = 10 ∧ field v 0 1 = 1 then field v 21 1 else field v (2 * i) 1
    if field v 32 1 = 0 then 8 * field v (8 * (qy % 4) + qx % 8) 1 else [0, 3, 5, 8].getD (low + 2 * field v (2 * i + 1) 1) 0
  let weight2 := fun (g : WordGrid) (px py : Nat) =>
    let v := word g (px / 8) (py / 4)
    let left := stored g (px + 8 * g.nx - 1) py
    let right := stored g (px + 1) py
    let above := stored g px (py + 4 * g.ny - 1)
    let below := stored g px (py + 1)
    if field v 32 1 = 0 ∨ (px + py) % 2 = 0 then stored g px py
    else if field v 0 1 = 0 then (above + below + left + right + 2) / 4
    else if field v 20 1 = 1 then (above + below + 1) / 2
    else (left + right + 1) / 2
  (∀ (c : Config) (g : WordGrid) (px py : Nat), c.tables = none → isPow2 g.nx = true → isPow2 g.ny = true →
    let out4 := fun ch => blend (weight4 g px py) (up4 g colA px py ch) (up4 g colB px py ch)
    let out8 := fun ch => blend (weight2 g px py) (up8 g colA px py ch) (up8 g colB px py ch)
    pvrt4Pixel c g px py = pixelOf (out4 0) (out4 1) (out4 2) (if punch4 g px py then 0 else out4 3) ∧
    pvrt2Pixel c g px py = pixelOf (out8 0) (out8 1) (out8 2) (out8 3)) ∧
  (∀ (c : Config) (g : WordGrid) (q : Quad) (px py : Nat), c.tables = none → isPow2 g.nx = true → isPow2 g.ny = true →
    g.words.length = g.nx * g.ny → (∀ v ∈ g.words, a5 v = q ∧ b5 v = q) →
    pvrt4Pixel c g px py =
      pixelOf (upColor 4 (16 * q.r)) (upColor 4 (16 * q.g)) (upColor 4 (16 * q.b))
        (if (pvrt4Weight c (g.at (px / 4) (py / 4)) (px % 4) (py % 4)).2 then 0 else upAlpha 4 (16 * q.a)) ∧
    pvrt2Pixel c g px py =
      pixelOf (upColor 8 (32 * q.r)) (upColor 8 (32 * q.g)) (upColor 8 (32 * q.b)) (upAlpha 8 (32 * q.a))) ∧
  (∀ (c : Config) (px py : Nat), c.tables = none →
    pvrt4Pixel c ⟨4, 2, List.replicate 8 0xD16CD16CAAAAAAAA⟩ px py = pixelOf 165 90 99 255 ∧
    pvrt2Pixel c ⟨4, 2, List.replicate 8 0xD16CD16CAAAAAAAA⟩ px py = pixelOf 165 90 99 255)

/-- 47_pvrtc.md rule R335: the bits of `tw`, and that it is a bijection from the word grid onto `0 .. nx*ny - 1`. -/
def Obligations.TwiddleIsABijection : Prop :=
  ∀ nx ny, isPow2 nx = true → isPow2 ny = true →
    (∀ k x y, 2 ^ k = min nx ny → x < nx → y < ny →
      (∀ i, i < k →
        (twiddle nx ny x y).testBit (2 * i) = y.testBit i ∧ (twiddle nx ny x y).testBit (2 * i + 1) = x.testBit i) ∧
      twiddle nx ny x y / 4 ^ k = (if ny < nx then x else y) / 2 ^ k) ∧
    (∀ x y, x < nx → y < ny → twiddle nx ny x y < nx * ny) ∧
    (∀ x y x' y', x < nx → y < ny → x' < nx → y' < ny → twiddle nx ny x y = twiddle nx ny x' y' → x = x' ∧ y = y') ∧
    (∀ n, n < nx * ny → ∃ x y, x < nx ∧ y < ny ∧ twiddle nx ny x y = n)

/-- 43_dxt_rgtc.md rules R201 to R207, R209 to R211, R217: the value of every texel of the DXT kinds, with the expansion of
the references, the two palettes and the alpha nibbles written as the rules write them. The comparison of the references
selects the palette of DXT1 (rule R205, property T3 of the source): above, no texel has alpha 0; not above, selector 3
is transparent black; DXT3 and DXT5 always take four colours. DXT1-alt is DXT1, or with `DXT1ALT_BYTESWAP` DXT1 with the
two bytes of each reference exchanged. -/
def Obligations.DxtTexelsFollowTheRules : Prop :=
  let red := fun c : Nat => c / 2048 * 8 + c / 2048 / 4
  let green := fun c : Nat => c / 32 % 64 * 4 + c / 32 % 64 / 16
  let blue := fun c : Nat => c % 32 * 8 + c % 32 / 4
  let mixed := fun (f : Nat → Nat → Nat) (c0 c1 : Nat) (alpha : Byte) =>
    (⟨BitVec.ofNat 8 (f (red c0) (red c1)), BitVec.ofNat 8 (f (green c0) (green c1)),
      BitVec.ofNat 8 (f (blue c0) (blue c1)), alpha⟩ : Pixel)
  let four := fun (c0 c1 sel : Nat) (alpha : Byte) =>
    if sel = 0 then mixed (fun a _ => a) c0 c1 alpha else if sel = 1 then mixed (fun _ b => b) c0 c1 alpha
    else if sel = 2 then mixed (fun a b => (2 * a + b) / 3) c0 c1 alpha
    else mixed (fun a b => (a + 2 * b) / 3) c0 c1 alpha
  let three := fun c0 c1 sel : Nat =>
    if sel = 0 then mixed (fun a _ => a) c0 c1 255 else if sel = 1 then mixed (fun _ b => b) c0 c1 255
    else if sel = 2 then mixed (fun a b => (a + b) / 2) c0 c1 255 else ⟨0, 0, 0, 0⟩
  (∀ v t, t < 16 →
    let c0 := bitsOf v 0 16
    let c1 := bitsOf v 16 16
    let sel := bitsOf v (32 + 2 * t) 2
    (dxt1 v)[t]? = some (if c0 ≤ c1 then three c0 c1 sel else four c0 c1 sel 255) ∧
    (c1 < c0 → ∃ p, (dxt1 v)[t]? = some p ∧ p.a ≠ 0) ∧
    (c0 ≤ c1 → sel = 3 → (dxt1 v)[t]? = some ⟨0, 0, 0, 0⟩)) ∧
  (∀ v t, t < 16 →
    let c0 := bitsOf v 64 16
    let c1 := bitsOf v 80 16
    let sel := bitsOf v (96 + 2 * t) 2
    (dxt3 v)[t]? = some (four c0 c1 sel (BitVec.ofNat 8 (17 * bitsOf v (4 * t) 4))) ∧
    (∃ alpha, (dxt5 v)[t]? = some (four c0 c1 sel alpha))) ∧
  (∀ (c : Config) (b0 b1 b2 b3 sel : Nat), b0 < 256 → b1 < 256 → b2 < 256 → b3 < 256 → sel < 2 ^ 32 →
    dxt1alt c (b0 + 2 ^ 8 * b1 + 2 ^ 16 * b2 + 2 ^ 24 * b3 + 2 ^ 32 * sel) =
      if c.dxt1AltByteswap = true then dxt1 (b1 + 2 ^ 8 * b0 + 2 ^ 16 * b3 + 2 ^ 24 * b2 + 2 ^ 32 * sel)
      else dxt1 (b0 + 2 ^ 8 * b1 + 2 ^ 16 * b2 + 2 ^ 24 * b3 + 2 ^ 32 * sel))

/-- 43_dxt_rgtc.md rules R208, R212, R218: the PSP kinds differ from the plain kinds by the places of the fields alone. -/
def Obligations.PspKindsArePositional : Prop :=
  ∀ refs sel alpha asel arefs, refs < 2 ^ 32 → sel < 2 ^ 32 → alpha < 2 ^ 64 → asel < 2 ^ 48 → arefs < 2 ^ 16 →
    dxt1psp (sel + 2 ^ 32 * refs) = dxt1 (refs + 2 ^ 32 * sel) ∧
    dxt3psp (sel + 2 ^ 32 * refs + 2 ^ 64 * alpha) = dxt3 (alpha + 2 ^ 64 * (refs + 2 ^ 32 * sel)) ∧
    dxt5psp (sel + 2 ^ 32 * refs + 2 ^ 64 * (asel + 2 ^ 48 * arefs)) =
      dxt5 (arefs + 2 ^ 16 * asel + 2 ^ 64 * (refs + 2 ^ 32 * sel))

/-- 43_dxt_rgtc.md rules R214 to R217, R219 to R221: the value of each texel of the ramp kinds, from the two reference
bytes and the texel's selector, with the entries written as the rules write them. -/
def Obligations.RampKindsFollowTheRampRule : Prop :=
  let entryU := fun a0 a1 k : Nat =>
    if k = 0 then a0 else if k = 1 then a1
    else if a1 < a0 then ((8 - k) * a0 + (k - 1) * a1) / 7
    else if k = 6 then 0 else if k = 7 then 255 else ((6 - k) * a0 + (k - 1) * a1) / 5
  let valueU := fun v t : Nat => entryU (bitsOf v 0 8) (bitsOf v 8 8) (bitsOf v (16 + 3 * t) 3)
  let entryS := fun (s0 s1 : Int) (k : Nat) =>
    if k = 0 then s0 else if k = 1 then s1
    else if s1 < s0 then Int.tdiv ((8 - (k : Int)) * s0 + ((k : Int) - 1) * s1) 7
    else if k = 6 then -128 else if k = 7 then 127 else Int.tdiv ((6 - (k : Int)) * s0 + ((k : Int) - 1) * s1) 5
  let valueS := fun v t : Nat =>
    (entryS (sext 8 (bitsOf v 0 8)) (sext 8 (bitsOf v 8 8)) (bitsOf v (16 + 3 * t) 3) + 128).toNat
  ∀ (c : Config) (v t : Nat), c.srgtcBias = 128 → t < 16 →
    (rgtc1 v)[t]? = some (pixelOf (valueU v t) 0 0 255) ∧
    (rgtc2 v)[t]? = some (pixelOf (valueU v t) (valueU (bitsOf v 64 64) t) 0 255) ∧
    (rgtc1s c v)[t]? = some (pixelOf (valueS v t) 0 0 255) ∧
    (rgtc2s c v)[t]? = some (pixelOf (valueS v t) (valueS (bitsOf v 64 64) t) 0 255) ∧
    (∃ p, (dxt5 v)[t]? = some p ∧ p.a = BitVec.ofNat 8 (valueU v t))

/-- 44_etc1.md rules R240 to R251: the value of every texel of `BLK.ETC1` from the word of its sub-block, under the default
tables, with the base colours, the halves and the offsets written as the rules write them; and `BLK.ETC1A4` on interleaved
alpha and colour words has the colours of `BLK.ETC1` on the colour words and the nibbles times 17. -/
def Obligations.Etc1TexelsFollowTheRules : Prop :=
  ∀ (c : Config) (c0 c1 c2 c3 a0 a1 a2 a3 : Nat),
    c0 < 2 ^ 64 → c1 < 2 ^ 64 → c2 < 2 ^ 64 → c3 < 2 ^ 64 →
    a0 < 2 ^ 64 → a1 < 2 ^ 64 → a2 < 2 ^ 64 → a3 < 2 ^ 64 →
    ∀ x y, x < 8 → y < 8 →
      let colors := etc1 c (c0 + 2 ^ 64 * c1 + 2 ^ 128 * c2 + 2 ^ 192 * c3)
      let v := [c0, c1, c2, c3].getD (y / 4 * 2 + x / 4) 0
      let field := fun lo n : Nat => v / 2 ^ lo % 2 ^ n
      let p := 4 * (x % 4) + y % 4
      let half2 := if field 32 1 = 1 then 2 ≤ y % 4 else 2 ≤ x % 4
      let five := fun n : Nat => n * 8 + n / 4
      let delta := fun d : Nat => if 4 ≤ d then 24 + d else d
      let base := fun lo : Nat =>
        if field 33 1 = 0 then (if half2 then 17 * field lo 4 else 17 * field (lo + 4) 4)
        else if half2 then five ((field (lo + 3) 5 + delta (field lo 3)) % 32) else five (field (lo + 3) 5)
      let table := if half2 then field 34 3 else field 37 3
      let small : Int := [2, 5, 9, 13, 18, 24, 33, 47].getD table 0
      let large : Int := [8, 17, 29, 42, 60, 80, 106, 183].getD table 0
      let offset := [small, large, -small, -large].getD (2 * field (16 + p) 1 + field p 1) 0
      let channel := fun lo : Nat => BitVec.ofNat 8 (max 0 (min 255 ((base lo : Int) + offset))).toNat
      (c.tables = none → colors[8 * y + x]? = some ⟨channel 56, channel 48, channel 40, 255⟩) ∧
      ∃ q, colors[8 * y + x]? = some q ∧ q.a = 255 ∧
        (etc1a4 c (a0 + 2 ^ 64 * c0 + 2 ^ 128 * a1 + 2 ^ 192 * c1 + 2 ^ 256 * a2 + 2 ^ 320 * c2 + 2 ^ 384 * a3 +
            2 ^ 448 * c3))[8 * y + x]? =
          some { q with
            a := BitVec.ofNat 8 (17 * bitsOf (([a0, a1, a2, a3].getD (y / 4 * 2 + x / 4) 0)) (4 * p) 4) }

/-- 45_bc7.md rules R275, R280 (property T4 of the source): for every mode and every partition, the anchor of each subset
lies in that subset and its index has exactly one bit fewer than the other texels of the subset. -/
def Obligations.Bc7AnchorsHaveOneBitFewer : Prop :=
  ∀ c : Config, c.tables = none → ∀ k ∈ bc7Modes c, ∀ part, part < 2 ^ k.pb → ∀ sub, sub < k.ns →
    let anchor := bc7Anchor c k.ns part sub
    anchor < 16 ∧ bc7Subset c k.ns part anchor = sub ∧
    (indexWidths c k.ib k.ns part)[anchor]? = some (k.ib - 1) ∧
    ∀ t, t < 16 → bc7Subset c k.ns part t = sub → t ≠ anchor → (indexWidths c k.ib k.ns part)[t]? = some k.ib

/-- 45_bc7.md rule R271: every mode's fields fill the 128 bits of a block exactly. -/
def Obligations.Bc7FieldsFillTheBlock : Prop :=
  ∀ (c : Config) (m : Nat) (k : Bc7Mode), c.tables = none → (bc7Modes c)[m]? = some k →
    (m + 1) + k.pb + k.rb + k.isb + 3 * (2 * k.ns * k.cb) + 2 * k.ns * k.ab + (2 * k.ns * k.epb + k.ns * k.spb) +
      (16 * k.ib - k.ns) + (if 0 < k.ib2 then 16 * k.ib2 - 1 else 0) = 128 ∧
    (∀ part, (indexWidths c k.ib k.ns part).length = 16)

/-- 45_bc7.md rules R266, R268 to R270, R278 to R285: the value of every texel of a block whose lowest set bit is bit `m`,
under the default tables, with the fields read one after another in the order of rule R266 and the parity, the
expansion, the weights, the choice of the indices and the rotation written as the rules write them; and a block whose
first byte is zero gives a tile of `(0,0,0,0)`, whatever follows. -/
def Obligations.Bc7TexelsFollowTheRules : Prop :=
  (∀ (c : Config) (v : Nat), v % 256 = 0 → bc7 c v = List.replicate 16 ⟨0, 0, 0, 0⟩) ∧
  (∀ (c : Config) (v m t : Nat) (k : Bc7Mode), c.tables = none → m < 8 → v % 2 ^ (m + 1) = 2 ^ m →
    (bc7Modes c)[m]? = some k → t < 16 →
    let part := v / 2 ^ (m + 1) % 2 ^ k.pb
    let ends := 2 * k.ns
    let parity := ends * k.epb + k.ns * k.spb
    let secondary := (List.range 16).map fun n => if k.ib2 = 0 then 0 else if n = 0 then k.ib2 - 1 else k.ib2
    let fields := readFields v (m + 1)
      ([k.pb, k.rb, k.isb] ++ List.replicate (3 * ends) k.cb ++ List.replicate ends k.ab ++ List.replicate parity 1 ++
        indexWidths c k.ib k.ns part ++ secondary)
    let field := fun n => fields.getD n 0
    let width := fun ch => (if ch = 3 then k.ab else k.cb) + if parity = 0 then 0 else 1
    let value := fun ch e =>
      let raw := field (3 + ends * ch + e)
      if parity = 0 then raw else 2 * raw + field (3 + 4 * ends + if k.epb = 1 then e else e / 2)
    let endpoint := fun ch e =>
      let x := value ch e * 2 ^ (8 - width ch)
      x + x / 2 ^ width ch
    let weight := fun bits i : Nat =>
      (if bits = 2 then [0, 21, 43, 64] else if bits = 3 then [0, 9, 18, 27, 37, 46, 55, 64]
       else [0, 4, 9, 13, 17, 21, 26, 30, 34, 38, 43, 47, 51, 55, 60, 64]).getD i 0
    let first := weight k.ib (field (3 + 4 * ends + parity + t))
    let second := weight k.ib2 (field (3 + 4 * ends + parity + 16 + t))
    let colorWeight := if 0 < k.ib2 ∧ field 2 = 1 then second else first
    let alphaWeight := if 0 < k.ib2 ∧ field 2 = 0 then second else first
    let sub := if k.ns = 1 then 0 else if k.ns = 2 then bc7P2 c part t else bc7P3 c part t
    let interp := fun ch w => ((64 - w) * endpoint ch (2 * sub) + w * endpoint ch (2 * sub + 1) + 32) / 64
    let r := interp 0 colorWeight
    let g := interp 1 colorWeight
    let b := interp 2 colorWeight
    let a := if k.ab = 0 then 255 else interp 3 alphaWeight
    (bc7 c v)[t]? = some (if field 1 = 1 then pixelOf a g b r else if field 1 = 2 then pixelOf r a b g
      else if field 1 = 3 then pixelOf r g a b else pixelOf r g b a))

/-- 46_bptc_float.md rules R302, R303, R306 to R315, R318: the value of every texel of a block of every mode in both kinds,
under the default tables, with the fields put together bit by bit from the mode's layout and the deltas, the signs,
the unquantisation, the interpolation, the half-float and its byte written as the rules write them; and a block with one
of the four reserved mode values gives a tile of `(0,0,0,255)` in both kinds, whatever follows. -/
def Obligations.BptcfTexelsFollowTheRules : Prop :=
  (∀ (c : Config) (signed : Bool) (v : Nat), c.tables = none → v % 32 = 19 ∨ v % 32 = 23 ∨ v % 32 = 27 ∨ v % 32 = 31 →
    bptcf c signed v = List.replicate 16 ⟨0, 0, 0, 255⟩) ∧
  (∀ (c : Config) (signed : Bool) (v t : Nat) (k : BptcfMode), c.tables = none → k ∈ bptcfModes c →
    k.value = (if v % 4 < 2 then v % 4 else v % 32) → t < 16 →
    let itemBits := fun it : LayoutItem =>
      if it.i ≤ it.j then ((List.range (it.j - it.i + 1)).map fun n => v / 2 ^ (it.pos + n) % 2 * 2 ^ (it.i + n)).sum
      else ((List.range (it.i - it.j + 1)).map fun n => v / 2 ^ (it.pos + n) % 2 * 2 ^ (it.i - n)).sum
    let field := fun ch ep : Nat => ((k.layout.filter fun it => it.ch == ch && it.ep == ep).map itemBits).sum
    let deltaWidth := fun ch : Nat => if ch = 0 then k.dR else if ch = 1 then k.dG else k.dB
    let raw := fun ch ep : Nat =>
      if ep = 0 ∨ k.delta = false then field ch ep
      else (field ch 0 + field ch ep +
        if 2 ^ (deltaWidth ch - 1) ≤ field ch ep then 2 ^ k.epb - 2 ^ deltaWidth ch else 0) % 2 ^ k.epb
    let value := fun ch ep : Nat =>
      if signed = true ∧ 2 ^ (k.epb - 1) ≤ raw ch ep then (raw ch ep : Int) - 2 ^ k.epb else (raw ch ep : Int)
    let unsignedUnq := fun x : Int =>
      if 15 ≤ k.epb then x else if x = 0 then 0 else if x = 2 ^ k.epb - 1 then 65535
      else (x * 65536 + 32768) / 2 ^ k.epb
    let magnitude := fun a : Nat =>
      if a = 0 then 0 else if 2 ^ (k.epb - 1) - 1 ≤ a then 32767 else (a * 32768 + 16384) / 2 ^ (k.epb - 1)
    let signedUnq := fun x : Int =>
      if 16 ≤ k.epb then x else if x < 0 then -(magnitude x.natAbs : Int) else (magnitude x.natAbs : Int)
    let part := v / 2 ^ 77 % 32
    let sub := if k.regions = 2 then bc7P2 c part t else 0
    let index := (readFields v (if k.regions = 2 then 82 else 65)
      (indexWidths c (if k.regions = 2 then 3 else 4) k.regions part)).getD t 0
    let weight : Nat :=
      (if k.regions = 2 then [0, 9, 18, 27, 37, 46, 55, 64]
       else [0, 4, 9, 13, 17, 21, 26, 30, 34, 38, 43, 47, 51, 55, 60, 64]).getD index 0
    let half := fun ch : Nat =>
      let unq := fun ep => if signed = true then signedUnq (value ch ep) else unsignedUnq (value ch ep)
      let x := (unq (2 * sub) * (64 - weight) + unq (2 * sub + 1) * weight + 32) / 64
      if signed = false then (x * 31 / 64).toNat
      else if 0 ≤ x then (x * 31 / 32).toNat
      else if -x * 31 / 32 = 0 then 0 else 32768 + (-x * 31 / 32).toNat
    let byte := fun h : Nat =>
      if 32768 ≤ h then 0 else if 0x3C00 ≤ h then 255
      else if h < 1024 then (h * 255 + 2 ^ 23) / 2 ^ 24
      else ((1024 + h % 1024) * 255 + 2 ^ (24 - h / 1024)) / 2 ^ (25 - h / 1024)
    (bptcf c signed v)[t]? = some (pixelOf (byte (half 0)) (byte (half 1)) (byte (half 2)) 255))

/-- 46_bptc_float.md rules R313, R317: whatever the block, the half-float a channel is built into lies in 0 .. 0x7BFF in
the unsigned kind; in the signed kind its sign is the interpolated value's and its magnitude is at most 0x7C00, which
only the most negative value -32768 of mode 14 reaches. -/
def Obligations.BptcfHalvesStayInRange : Prop :=
  ∀ (c : Config) (k : BptcfMode) (v : Nat) (idx : List Nat) (t ch : Nat), c.tables = none → k ∈ bptcfModes c → ch < 3 →
    bptcfHalf c false k v idx t ch ≤ 0x7BFF ∧ bptcfHalf c true k v idx t ch < 0x10000 ∧
    bptcfHalf c true k v idx t ch % 0x8000 ≤ 0x7C00 ∧
    (bptcfHalf c true k v idx t ch % 0x8000 = 0x7C00 → k.epb = 16)

/-- 46_bptc_float.md rule R305: in every mode the layout's items use each block bit from the end of the mode field to the
partition field, or to the indices of a one-region mode, exactly once, and with the mode, partition and index bits
they fill 128 bits. -/
def Obligations.BptcfLayoutsCoverTheBlock : Prop :=
  ∀ c : Config, c.tables = none → ∀ k ∈ bptcfModes c,
    let width := fun it : LayoutItem => if it.i ≤ it.j then it.j - it.i + 1 else it.i - it.j + 1
    let modeBits := if k.value < 2 then 2 else 5
    let last := if k.regions = 2 then 77 else 65
    (∀ b, modeBits ≤ b → b < last → (k.layout.filter fun it => it.pos ≤ b && b < it.pos + width it).length = 1) ∧
    (k.layout.map width).sum + modeBits = last ∧
    last + (if k.regions = 2 then 5 else 0) + (indexWidths c (bptcfIndexBits k) k.regions 0).sum = 128

/-- 40_pipeline.md rule R116, 43_dxt_rgtc.md rule R200, 44_etc1.md rule R240: every block of every kind gives a whole tile. -/
def Obligations.TilesAreWhole : Prop :=
  ∀ (c : Config) (k : Special) (v : Nat), isPvrt k = false → (tileOf c k v).length = tileW k * tileH k

/-! ## Reordering -/

/-- 48_reorder.md rule R367, 40_pipeline.md rule R118: `REORD.LINEAR` leaves everything but `STAGE`; under a special kind so
does every other reordering. -/
def Obligations.ReordLinearCompletes : Prop :=
  ∀ (ro : Reorder) (s : State), ro = .linear ∨ descSpecial s.inFmt ≠ 0 →
    exec (reordOf ro) s = .next { s with stage := .filter }

/-- 48_reorder.md rules R365, R366, R377: `REORD.TILE3DS`, `REORD.MORTON`, `REORD.PSP` and `REORD.SWITCH` (reordTile3ds,
reordMorton, reordPsp, reordSwitch) put element `i` where the map says, the later element winning, and the fill
value where the map sends none; they act on `CANON`, or on `IDXBUF` in an indexed job, and change nothing else but
`STAGE`. -/
def Obligations.ReordPlacesElements : Prop :=
  ∀ (ro : Reorder) (s : State), ro ≠ .linear → descSpecial s.inFmt = 0 → reorderable s.cfg ro s.w s.h s.inBpp.bits →
    let lands := fun i d => reordMap s.cfg ro i s.w s.h s.inBpp.bits = some d
    let last := fun i d => lands i d ∧ ∀ j, i < j → j < s.area → ¬ lands j d
    ∃ t, exec (reordOf ro) s = .next t ∧ t.stage = .filter ∧ t.cur = s.cur ∧ t.tables = s.tables ∧ t.tile = s.tile ∧
      s.midJob t ∧
      (s.isIndexed = false →
        t.idxBuf = s.idxBuf ∧ t.canon.length = s.area ∧
        ∀ d, d < s.area →
          (∀ i, i < s.area → last i d → t.canon[d]? = some (s.canon.getD i ⟨0, 0, 0, 0⟩)) ∧
          ((∀ i, i < s.area → ¬ lands i d) → t.canon[d]? = some ⟨0, 0, 0, 0⟩)) ∧
      (s.isIndexed = true →
        t.canon = s.canon ∧ t.idxBuf.length = s.area ∧
        ∀ d, d < s.area →
          (∀ i, i < s.area → last i d → t.idxBuf[d]? = some (s.idxBuf.getD i 0)) ∧
          ((∀ i, i < s.area → ¬ lands i d) → t.idxBuf[d]? = some 0))

/-- 48_reorder.md rule R371 (property T6 of the source): untiling a tiled fixture of a 16 by 16 picture reproduces the
linear picture exactly. -/
def Obligations.Tile3dsUntilesTheFixture : Prop :=
  ∀ (α : Type) (c : Config) (picture fixture : List α) (fill : α) (eb : Nat), c.tables = none → picture.length = 256 → fixture.length = 256 →
    (∀ i, i < 256 → fixture[i]? = picture[mapTile3ds c i 16]?) →
    reorderList c .tile3ds fixture 16 16 eb fill = picture

/-- 48_reorder.md rules R368, R369, R380, R381: the tiled-3DS and PSP maps, which the reorderings use, with the tile, the
place in the tile and the coordinates written out (`px` from bits 0, 2, 4 and `py` from bits 1, 3, 5 of the number in an 8
by 8 tile; for PSP the coordinates from the bit offset of the element, tiles 16 bytes wide and 8 rows high); and under
their geometry conditions both are bijections of `0 .. w*h - 1`. -/
def Obligations.TileMapsAreBijections : Prop :=
  ∀ (c : Config) (w h eb : Nat), c.tables = none →
    (∀ i,
      let tile := i / 64
      let across := w / 8
      let bit := fun n : Nat => i % 64 / 2 ^ n % 2
      let px := bit 0 + 2 * bit 2 + 4 * bit 4
      let py := bit 1 + 2 * bit 3 + 4 * bit 5
      reordMap c .tile3ds i w h eb = some (mapTile3ds c i w) ∧
      mapTile3ds c i w = (tile / across * 8 + py) * w + (tile % across * 8 + px)) ∧
    (w % 8 = 0 → h % 8 = 0 →
      (∀ i, i < w * h → mapTile3ds c i w < w * h) ∧
      (∀ i j, i < w * h → j < w * h → mapTile3ds c i w = mapTile3ds c j w → i = j)) ∧
    (128 % eb = 0 → w % (128 / eb) = 0 → h % 8 = 0 →
      (∀ i,
        let offset := i * eb
        let tile := offset / (128 * 8)
        let row := offset % (128 * 8) / 128
        let column := offset % 128 / eb
        let across := w * eb / 128
        reordMap c .psp i w h eb = some (mapPsp i w eb) ∧
        mapPsp i w eb = (tile / across * 8 + row) * w + (tile % across * (128 / eb) + column)) ∧
      (∀ i, i < w * h → mapPsp i w eb < w * h) ∧
      (∀ i j, i < w * h → j < w * h → mapPsp i w eb = mapPsp j w eb → i = j))

/-- 48_reorder.md rules R383, R384: under the geometry condition the Switch map, which the reordering uses, sends the
element at the byte address of `(x, y)`, with the address and the default block height written as the rule writes them,
to `(x, y)`, and every address is that of an element of the picture. -/
def Obligations.SwitchMapInvertsTheAddress : Prop :=
  ∀ (c : Config) (w h eb : Nat), c.tables = none →
    let size := eb / 8
    let bh := if h ≤ 8 then 1 else if h ≤ 16 then 2 else if h ≤ 32 then 4 else if h ≤ 64 then 8 else 16
    let gw := w * size / 64
    let addr := fun x y : Nat =>
      y / (8 * bh) * (512 * bh * gw) + x * size / 64 * (512 * bh) + y % (8 * bh) / 8 * 512 +
        x * size % 64 / 32 * 256 + y % 8 / 2 * 64 + x * size % 32 / 16 * 32 + y % 2 * 16 + x * size % 16
    eb ∈ [8, 16, 32, 64, 128] → w * size % 64 = 0 → h % (8 * bh) = 0 →
    (∀ x y, x < w → y < h →
      addr x y % size = 0 ∧ addr x y / size < w * h ∧
      reordMap c .switch (addr x y / size) w h eb = some (y * w + x)) ∧
    (∀ i, i < w * h → ∃ d, reordMap c .switch i w h eb = some d ∧ d < w * h)

/-- 48_reorder.md rules R372 to R374: the Morton map, which the reordering uses, in every geometry, with `even(i)` and
`odd(i)` given by their bits and the rest written as rule R372 writes it. When the shorter side is a power of two and
divides the longer, it is a bijection of `0 .. w*h - 1`, the odd bits of the low `2k` bits of `i` are those of `x`, the
even bits those of `y`, and the bits above are the rest of the longer side's coordinate. -/
def Obligations.MortonMapIsABijection : Prop :=
  (∀ (c : Config) (i w h eb even odd : Nat), 0 < w → 0 < h →
    (∀ n, even.testBit n = i.testBit (2 * n)) → (∀ n, odd.testBit n = i.testBit (2 * n + 1)) →
    let mn := min w h
    ∀ k, 2 ^ k ≤ mn → mn < 2 ^ (k + 1) →
    let hi := i >>> (2 * k) <<< (2 * k)
    let j :=
      if h < w then hi ||| ((odd &&& (mn - 1)) <<< k) ||| (even &&& (mn - 1))
      else hi ||| ((even &&& (mn - 1)) <<< k) ||| (odd &&& (mn - 1))
    let x := if h < w then j / h else j % w
    let y := if h < w then j % h else j / w
    reordMap c .morton i w h eb = if x < w ∧ y < h then some (y * w + x) else none) ∧
  (∀ w h, isPow2 (min w h) = true → max w h % min w h = 0 →
    (∀ i, i < w * h → ∃ d, mapMorton i w h = some d ∧ d < w * h) ∧
    (∀ i j, i < w * h → j < w * h → mapMorton i w h = mapMorton j w h → i = j) ∧
    (∀ i d k, i < w * h → mapMorton i w h = some d → 2 ^ k = min w h →
      let x := d % w
      let y := d / w
      (∀ n, n < k → i.testBit (2 * n) = y.testBit n ∧ i.testBit (2 * n + 1) = x.testBit n) ∧
      i / 4 ^ k = (if h < w then x else y) / 2 ^ k))

/-! ## The output filter -/

/-- 49_filter.md rules R395 to R400, R405: `FILT.NONE` leaves everything but `STAGE`, and so does `FILT.DITHER` in
an indexed job; in any other job `FILT.DITHER` adds the threshold offset to every channel of 1 to 7 target bits, clamps
at 255, and changes nothing else. The target bits of a channel are the width the output layout gives it (rule R399);
the threshold at `(x, y)` is, under the default tables, entry `[x mod 8][y mod 8]` of the matrix written out (rules R396,
R397). -/
def Obligations.FiltersComplete : Prop :=
  ∀ s : State,
    let matrix :=
      [[1, 49, 13, 61, 4, 52, 16, 64], [33, 17, 45, 29, 36, 20, 48, 32], [9, 57, 5, 53, 12, 60, 8, 56],
       [41, 25, 37, 21, 44, 28, 40, 24], [3, 51, 15, 63, 2, 50, 14, 62], [35, 19, 47, 31, 34, 18, 46, 30],
       [11, 59, 7, 55, 10, 58, 6, 54], [43, 27, 39, 23, 42, 26, 38, 22]]
    let threshold := fun x y =>
      if s.cfg.tables = none then (matrix.getD (x % 8) []).getD (y % 8) 0 else bayerAt s.cfg x y
    let named : List Chan :=
      match chOf (descCh s.outFmt) with
      | some (.plain lay) => lay.channels
      | some .indexed => []
      | none => []
    let color := fun (c : Chan) (width : Nat) =>
      if .l ∈ named then descRbits s.outFmt else if c ∈ named then width else 0
    let red := color .r (descRbits s.outFmt)
    let green := color .g (descGbits s.outFmt)
    let blue := color .b (descBbits s.outFmt)
    let alpha := if .a ∈ named then descAbits s.outFmt else 0
    let dithered := fun (target x y : Nat) (v : Byte) =>
      if 1 ≤ target ∧ target ≤ 7 then BitVec.ofNat 8 (min 255 (v.toNat + threshold x y * 2 ^ (8 - target) / 64))
      else v
    exec .filtNone s = .next { s with stage := .pack } ∧
    (s.isIndexed = true → exec .filtDither s = .next { s with stage := .pack }) ∧
    (s.isIndexed = false →
      ∃ t, exec .filtDither s = .next t ∧ t.stage = .pack ∧ t.canon.length = s.canon.length ∧
        (∀ x y p, x < s.w → s.canon[y * s.w + x]? = some p →
          t.canon[y * s.w + x]? =
            some ⟨dithered red x y p.r, dithered green x y p.g, dithered blue x y p.b, dithered alpha x y p.a⟩) ∧
        t.cur = s.cur ∧ t.idxBuf = s.idxBuf ∧ t.tables = s.tables ∧ t.tile = s.tile ∧ s.midJob t)

/-- 49_filter.md rule R403 (property T8 of the source): dithered output stays within the target range for every
threshold and every input. -/
def Obligations.DitherStaysInRange : Prop :=
  ∀ tb v bayer : Nat, 1 ≤ tb → tb ≤ 7 → 1 ≤ bayer → bayer ≤ 64 → v ≤ 255 →
    resample (min 255 (v + bayer * 2 ^ (8 - tb) / 64)) 8 tb ≤ 2 ^ tb - 1

/-! ## The host's port -/

/-- 10_state.md rule R21: between jobs the host reads back from a job register what it wrote, in the register's width;
no other register changes. -/
def Obligations.RegistersReadBack : Prop :=
  ∀ (s t : State) (r : JobReg) (v : BitVec 64), s.Inv → hostWriteReg r v s = .next t →
    hostReadReg r t = .next (BitVec.ofNat 64 (v.toNat % 2 ^ r.bits)) ∧ t.written.contains r = true ∧
    (∀ q, q ≠ r → t.getReg q = s.getReg q) ∧ s.sameOutputs t ∧ s.sameStatus t ∧ t.inBuf = s.inBuf ∧ t.pal = s.pal

/-- 40_pipeline.md rule R122, 70_reset_and_hazards.md rule R444: between jobs, with no command pending, the host reads from
`OUT` and `TBL[k]` the bytes that were last written there, by the last finished job or by the host after it. A byte beyond the
length is a free value, and an access in `BUSY` or while a command is pending is refused: the model's choices of log entries 5
and 13. -/
def Obligations.HostReadsOutputs : Prop :=
  ∀ s : State,
    (s.status ≠ .busy → s.cmd = none →
      (∀ a, a < s.outLen.toNat → hostReadOut a s = .next (s.out.read a)) ∧
      (∀ k a, k < s.cfg.palMax → a < (s.tblLen.getD k 0).toNat →
        hostReadTbl k a s = .next ((s.tbl.getD k []).read a)) ∧
      (∀ a, s.outLen.toNat ≤ a → hostReadOut a s = .next (Config.freeByte s.jobs 0 a))) ∧
    (s.status = .busy ∨ s.cmd ≠ none → ∀ a, hostReadOut a s = .refused .hostAccessWhileBusy)

/-- 20_memory.md rule R50, 70_reset_and_hazards.md rule R444: between jobs the host changes the bytes of `IN`, `PAL[k]`, `OUT`
and `TBL[k]` one by one, at every address of a 32-bit length; every other byte holds what it held, and the host reads back what
it wrote below `OUT_LEN` and `TBL_LEN[k]`. The counter `jobs`, which draws the bytes beyond the lengths anew, is the model's (log
entry 5), and that an access in `BUSY` or while a command is pending is refused is that of log entry 13. -/
def Obligations.BufferBytesArePlaced : Prop :=
  ∀ (s : State) (a : Nat) (v : Byte),
    (s.Inv → s.status ≠ .busy → s.cmd = none → a < 2 ^ 32 →
      (∃ t, hostPutIn a v s = .next t ∧
        (∀ x, t.inBuf.read x = if x = a then v else s.inBuf.read x) ∧ t = { s with inBuf := t.inBuf }) ∧
      (∃ t, hostPutOut a v s = .next t ∧
        (∀ x, t.out.read x = if x = a then v else s.out.read x) ∧ t = { s with out := t.out, jobs := s.jobs + 1 } ∧
        (a < s.outLen.toNat → hostReadOut a t = .next v)) ∧
      ∀ k, k < s.cfg.palMax →
        (∃ t, hostPutPal k a v s = .next t ∧
          (∀ j x, (t.pal.getD j []).read x = if j = k ∧ x = a then v else (s.pal.getD j []).read x) ∧
          t = { s with pal := t.pal }) ∧
        ∃ t, hostPutTbl k a v s = .next t ∧
          (∀ j x, (t.tbl.getD j []).read x = if j = k ∧ x = a then v else (s.tbl.getD j []).read x) ∧
          t = { s with tbl := t.tbl, jobs := s.jobs + 1 } ∧
          (a < (s.tblLen.getD k 0).toNat → hostReadTbl k a t = .next v)) ∧
    (s.status = .busy ∨ s.cmd ≠ none →
      hostPutIn a v s = .refused .hostAccessWhileBusy ∧ hostPutOut a v s = .refused .hostAccessWhileBusy ∧
      ∀ k, hostPutPal k a v s = .refused .hostAccessWhileBusy ∧ hostPutTbl k a v s = .refused .hostAccessWhileBusy)
end

