-- ==== Sys2Proof/Laws/Bits.lean ====
section
/-! SUPPORT. Bit fields of sums, and the fields of an encoded plain word. -/

namespace Sys2Proof

theorem bitsOf_zero (v n : Nat) : bitsOf v 0 n = v % 2 ^ n := by simp [bitsOf]

theorem bitsOf_lt (v lo n : Nat) : bitsOf v lo n < 2 ^ n := Nat.mod_lt _ (Nat.two_pow_pos n)

/-- A field that starts where the lower part ends. -/
theorem bitsOf_high {a lo : Nat} (h : a < 2 ^ lo) (b n : Nat) : bitsOf (a + 2 ^ lo * b) lo n = b % 2 ^ n := by
  rw [bitsOf, Nat.add_mul_div_left _ _ (Nat.two_pow_pos lo), Nat.div_eq_of_lt h, Nat.zero_add]

/-- A field above the lower part is a field of the upper part. -/
theorem bitsOf_above {a k : Nat} (h : a < 2 ^ k) (b d n : Nat) : bitsOf (a + 2 ^ k * b) (k + d) n = bitsOf b d n := by
  rw [bitsOf, Nat.pow_add, ← Nat.div_div_eq_div_mul, Nat.add_mul_div_left _ _ (Nat.two_pow_pos k),
    Nat.div_eq_of_lt h, Nat.zero_add, bitsOf]

/-- A field within the lower part does not see the upper part. -/
theorem bitsOf_below (a b : Nat) {k lo n : Nat} (h : lo + n ≤ k) : bitsOf (a + 2 ^ k * b) lo n = bitsOf a lo n := by
  have e : 2 ^ k * b = 2 ^ lo * (2 ^ n * (2 ^ (k - lo - n) * b)) := by
    rw [← Nat.mul_assoc, ← Nat.mul_assoc, ← Nat.pow_add, ← Nat.pow_add]
    congr 2; omega
  rw [bitsOf, e, Nat.add_mul_div_left _ _ (Nat.two_pow_pos lo), Nat.add_mul_mod_self_left, bitsOf]

/-- A field of a field. -/
theorem bitsOf_bitsOf (v lo n : Nat) {l k : Nat} (h : l + k ≤ n) : bitsOf (bitsOf v lo n) l k = bitsOf v (lo + l) k := by
  have e : v / 2 ^ lo = v / 2 ^ lo % 2 ^ n + 2 ^ n * (v / 2 ^ lo / 2 ^ n) := (Nat.mod_add_div _ _).symm
  have h1 : bitsOf v (lo + l) k = bitsOf (v / 2 ^ lo) l k := by
    rw [bitsOf, bitsOf, Nat.pow_add, Nat.div_div_eq_div_mul]
  rw [h1, e, bitsOf_below _ _ h]
  rfl

/-- The fields of a plain word, stacked. -/
theorem plainWord_eq (ch : Nat) (f : PlainFmt) :
    plainWord ch f =
      f.bpp.code + 2 ^ 3 * (ch + 2 ^ 5 * (f.rbits + 2 ^ 5 * (f.gbits + 2 ^ 5 * (f.bbits + 2 ^ 5 * (f.abits +
        2 ^ 16 * f.force.code))))) := by
  unfold plainWord
  ring

@[simp] theorem bppOf_code (b : Bpp) : bppOf b.code = b := by cases b <;> rfl
@[simp] theorem forceOf_code (f : Force) : forceOf f.code = f := by cases f <;> rfl
@[simp] theorem chOf_code (lay : Layout) : chOf lay.code = some (.plain lay) := by cases lay <;> rfl
@[simp] theorem specialOf_code (k : Special) : specialOf k.code = some k := by cases k <;> rfl
@[simp] theorem reorderOf_code (ro : Reorder) : reorderOf ro.code = some ro := by cases ro <;> rfl
@[simp] theorem filterOf_code (fi : Filter) : filterOf fi.code = some fi := by cases fi <;> rfl
@[simp] theorem endianOf_code (e : Endian) : endianOf e.code = some e := by cases e <;> rfl

end Sys2Proof
end

