-- ==== Sys2Proof/Laws/Channels.lean ====
section
/-! SUPPORT. Under the default parameters every channel value is a byte: the free values of log entries 21 and 22 never
arise, and each operation that can give one is the plain formula of its rule. -/

namespace Sys2Proof.Machine

theorem channelByte_of_range {p : OpenByte} {v : Int} (h0 : 0 ≤ v) (h1 : v ≤ 255) : channelByte p v = v.toNat :=
  if_pos ⟨h0, h1⟩

/-- Whatever the value, the result is a byte. -/
theorem channelByte_le (p : OpenByte) (v : Int) : channelByte p v ≤ 255 := by
  unfold channelByte
  split
  · omega
  · have := (Config.freeChannel p v).isLt; omega

theorem channelByte_natCast {p : OpenByte} {n : Nat} (h : n ≤ 255) : channelByte p (n : Int) = n := by
  rw [channelByte_of_range (by omega) (by omega), Int.toNat_natCast]

theorem getD_le {l : List Nat} {n : Nat} (h : ∀ x ∈ l, x ≤ n) (i : Nat) : l.getD i 0 ≤ n := by
  rw [List.getD_eq_getElem?_getD]
  cases hi : l[i]? with
  | none => simp
  | some x => simpa using h x (List.mem_of_getElem? hi)

/-! ## Signed RGTC -/

theorem srgtcByte_default {c : Config} {v : Int} (hc : c.srgtcBias = 128) (h0 : -128 ≤ v) (h1 : v ≤ 127) :
    srgtcByte c v = (v + 128).toNat := by
  rw [srgtcByte, hc, channelByte_of_range (by omega) (by omega)]

/-! ## BC7 -/

theorem bc7Interp_eq {a b w : Nat} (ha : a ≤ 255) (hb : b ≤ 255) (hw : w ≤ 64) :
    bc7Interp a b w = ((64 - w) * a + w * b + 32) / 64 := by
  have e : ((64 - (w : Int)) * a + w * b + 32) / 64 = (((64 - w) * a + w * b + 32) / 64 : Nat) := by
    push_cast [Nat.cast_sub hw]; rfl
  rw [bc7Interp, e]
  refine channelByte_natCast ?_
  have h1 : (64 - w) * a ≤ (64 - w) * 255 := Nat.mul_le_mul_left _ ha
  have h2 : w * b ≤ w * 255 := Nat.mul_le_mul_left _ hb
  omega

theorem expandTo8_le {v p : Nat} (hv : v < 2 ^ p) (hp : p ≤ 8) : expandTo8 v p ≤ 255 := by
  have key : ∀ p, p ≤ 8 → ∀ v, v < 2 ^ p → expandTo8 v p ≤ 255 := by decide +kernel
  exact key p hp v hv

theorem bc7W_le {c : Config} (hc : c.tables = none) (n i : Nat) : (bc7W c n).getD i 0 ≤ 64 := by
  have key : ∀ x ∈ bc7W c n, x ≤ 64 := by
    simp only [bc7W, hc]
    unfold stdBc7W
    split <;> decide
  exact getD_le key i

theorem bc7Endpoint_le {c : Config} (hc : c.tables = none) {k : Bc7Mode} (hk : k ∈ bc7Modes c) (m v ch e : Nat) :
    bc7Endpoint k m v ch e ≤ 255 := by
  have hw : ∀ k ∈ stdBc7Modes, k.cb + 1 ≤ 8 ∧ k.ab ≤ 8 ∧ (k.epb = 1 ∨ k.spb = 1 → k.ab + 1 ≤ 8) := by decide
  have hk' : k ∈ stdBc7Modes := by simpa [bc7Modes, hc] using hk
  obtain ⟨h1, h2, h3⟩ := hw k hk'
  have hr : bc7Raw k m v ch e < 2 ^ (if ch < 3 then k.cb else k.ab) := by
    unfold bc7Raw; split <;> exact bitsOf_lt _ _ _
  have hp : bc7Parity k m v e < 2 := by
    unfold bc7Parity; split <;> exact bitsOf_lt _ _ 1
  unfold bc7Endpoint
  split
  · omega
  · dsimp only
    split
    · refine expandTo8_le (by rw [Nat.pow_succ]; omega) ?_
      split <;> [exact h1; exact h3 ‹_›]
    · refine expandTo8_le hr ?_
      split <;> omega

/-- Under the default tables the interpolation of two endpoints is the plain formula. -/
theorem bc7Interp_default {c : Config} (hc : c.tables = none) {k : Bc7Mode} (hk : k ∈ bc7Modes c)
    (m v ch e₁ e₂ n i : Nat) :
    let a := bc7Endpoint k m v ch e₁
    let b := bc7Endpoint k m v ch e₂
    let w := (bc7W c n).getD i 0
    bc7Interp a b w = ((64 - w) * a + w * b + 32) / 64 :=
  bc7Interp_eq (bc7Endpoint_le hc hk m v ch e₁) (bc7Endpoint_le hc hk m v ch e₂) (bc7W_le hc n i)

/-! ## PVRTC -/

theorem modulate_eq {m a b : Nat} (hm : m ≤ 8) (ha : a ≤ 255) (hb : b ≤ 255) :
    modulate m a b = (a * (8 - m) + b * m) / 8 := by
  have e : ((a : Int) * (8 - (m : Int)) + b * m) / 8 = ((a * (8 - m) + b * m) / 8 : Nat) := by
    push_cast [Nat.cast_sub hm]; rfl
  rw [modulate, e]
  refine channelByte_natCast ?_
  have h1 : a * (8 - m) ≤ 255 * (8 - m) := Nat.mul_le_mul_right _ ha
  have h2 : b * m ≤ 255 * m := Nat.mul_le_mul_right _ hb
  omega

/-- A colour at the common precision (5, 5, 5, 4). -/
def Quad.small (q : Quad) : Prop := q.r ≤ 31 ∧ q.g ≤ 31 ∧ q.b ≤ 31 ∧ q.a ≤ 15

theorem pv4to5_le (v lo : Nat) : pv4to5 (bitsOf v lo 4) ≤ 31 := by
  have := bitsOf_lt v lo 4
  unfold pv4to5; omega

theorem pv3to5_le (v lo : Nat) : pv3to5 (bitsOf v lo 3) ≤ 31 := by
  have := bitsOf_lt v lo 3
  unfold pv3to5; omega

theorem bitsOf5_le (v lo : Nat) : bitsOf v lo 5 ≤ 31 := Nat.le_of_lt_succ (bitsOf_lt v lo 5)

theorem bitsOf3_double_le (v lo : Nat) : bitsOf v lo 3 * 2 ≤ 15 := by have := bitsOf_lt v lo 3; omega

theorem a5_small (v : Nat) : (a5 v).small := by
  unfold a5 Quad.small
  dsimp only
  split
  · exact ⟨bitsOf5_le _ _, bitsOf5_le _ _, pv4to5_le _ _, Nat.le_refl _⟩
  · exact ⟨pv4to5_le _ _, pv4to5_le _ _, pv3to5_le _ _, bitsOf3_double_le _ _⟩

theorem b5_small (v : Nat) : (b5 v).small := by
  unfold b5 Quad.small
  dsimp only
  split
  · exact ⟨bitsOf5_le _ _, bitsOf5_le _ _, bitsOf5_le _ _, Nat.le_refl _⟩
  · exact ⟨pv4to5_le _ _, pv4to5_le _ _, pv4to5_le _ _, bitsOf3_double_le _ _⟩

/-- The default factors sum to `4*WW` (47_pvrtc.md rule R338). -/
theorem upscaleSum_le {n ww u v p q r s : Nat} (hu : u ≤ ww) (hv : v ≤ 4) (hp : p ≤ n) (hq : q ≤ n) (hr : r ≤ n)
    (hs : s ≤ n) : upscaleSum (stdPvrtFactors ww u v) p q r s ≤ 4 * ww * n := by
  obtain ⟨x, rfl⟩ := Nat.exists_eq_add_of_le hu
  obtain ⟨y, hy⟩ := Nat.exists_eq_add_of_le hv
  have e : 4 * (u + x) * n = y * x * n + y * u * n + v * x * n + v * u * n := by rw [hy]; ring
  simp only [upscaleSum, stdPvrtFactors, List.getD_cons_zero, List.getD_cons_succ]
  rw [e, show 4 - v = y by omega, Nat.add_sub_cancel_left]
  gcongr

theorem cellPlace_le {p side : Nat} (h : 0 < side) : cellPlace p side ≤ side := by
  have := Nat.mod_lt p h
  unfold cellPlace; split <;> omega

/-- Under the default factors the four upscaled channels are bytes. -/
theorem upscaled_le {c : Config} (hc : c.tables = none) (g : WordGrid) {ww : Nat} (hw : ww = 4 ∨ ww = 8)
    {five : Nat → Quad} (h5 : ∀ v, (five v).small) (px py : Nat) :
    let up := upscaled c g ww five px py
    up.r ≤ 255 ∧ up.g ≤ 255 ∧ up.b ≤ 255 ∧ up.a ≤ 255 := by
  have hu : cellPlace px ww ≤ ww := cellPlace_le (by omega)
  have hv : cellPlace py 4 ≤ 4 := cellPlace_le (by omega)
  have col : ∀ t, t ≤ 4 * ww * 31 → upColor ww t ≤ 255 := by
    intro t ht; unfold upColor
    rcases hw with rfl | rfl <;> simp <;> omega
  have alp : ∀ t, t ≤ 4 * ww * 15 → upAlpha ww t ≤ 255 := by
    intro t ht; unfold upAlpha
    rcases hw with rfl | rfl <;> simp <;> omega
  simp only [upscaled, pvrtFactors, hc]
  refine ⟨col _ ?_, col _ ?_, col _ ?_, alp _ ?_⟩ <;>
    exact upscaleSum_le hu hv (by simp only [h5 _ |>.1, h5 _ |>.2.1, h5 _ |>.2.2.1, h5 _ |>.2.2.2])
      (by simp only [h5 _ |>.1, h5 _ |>.2.1, h5 _ |>.2.2.1, h5 _ |>.2.2.2])
      (by simp only [h5 _ |>.1, h5 _ |>.2.1, h5 _ |>.2.2.1, h5 _ |>.2.2.2])
      (by simp only [h5 _ |>.1, h5 _ |>.2.1, h5 _ |>.2.2.1, h5 _ |>.2.2.2])

theorem pvrt4Weight_le {c : Config} (hc : c.tables = none) (v lx ly : Nat) : (pvrt4Weight c v lx ly).1 ≤ 8 := by
  unfold pvrt4Weight
  dsimp only
  split
  · exact getD_le (by simp [pvrtMod0, hc, stdPvrtMod0]) _
  · exact getD_le (by simp [pvrtMod1, hc, stdPvrtMod1]) _

theorem pvrt2Stored_le {c : Config} (hc : c.tables = none) (g : WordGrid) (qx qy : Nat) : pvrt2Stored c g qx qy ≤ 8 :=
  getD_le (by simp [pvrtRep, hc, stdPvrtRep]) _

theorem pvrt2Weight_le {c : Config} (hc : c.tables = none) (g : WordGrid) (px py : Nat) : pvrt2Weight c g px py ≤ 8 := by
  have h := pvrt2Stored_le hc g
  have h1 := h px (py + (4 * g.ny - 1))
  have h2 := h px (py + 1)
  have h3 := h (px + (8 * g.nx - 1)) py
  have h4 := h (px + 1) py
  unfold pvrt2Weight
  dsimp only
  split
  · exact h px py
  · split
    · omega
    · split <;> omega

/-! ## BPTC-Float -/

theorem halfInterp_range {lo hi a b : Int} {w : Nat} (hw : w ≤ 64) (ha : lo ≤ a ∧ a ≤ hi) (hb : lo ≤ b ∧ b ≤ hi) :
    lo ≤ halfInterp a b w ∧ halfInterp a b w ≤ hi := by
  have h64 : (0 : Int) ≤ 64 - w := by omega
  have hw0 : (0 : Int) ≤ w := by omega
  have l1 := mul_le_mul_of_nonneg_right ha.1 h64
  have l2 := mul_le_mul_of_nonneg_right hb.1 hw0
  have u1 := mul_le_mul_of_nonneg_right ha.2 h64
  have u2 := mul_le_mul_of_nonneg_right hb.2 hw0
  have el : lo * (64 - (w : Int)) + lo * w = 64 * lo := by ring
  have eh : hi * (64 - (w : Int)) + hi * w = 64 * hi := by ring
  unfold halfInterp
  omega

theorem halfFits_unsigned {v : Int} (h0 : 0 ≤ v) (h1 : v ≤ 65535) : halfFits false v = true := by
  simp only [halfFits, Bool.false_eq_true, if_false, decide_eq_true_eq]; omega

theorem halfFits_signed {v : Int} (h0 : -32768 ≤ v) (h1 : v ≤ 32767) : halfFits true v = true := by
  simp only [halfFits, if_true, decide_eq_true_eq]; omega

/-- The most an item of a layout can hold. -/
def itemMax (it : LayoutItem) : Nat :=
  if it.i ≤ it.j then (2 ^ (it.j - it.i + 1) - 1) * 2 ^ it.i
  else ((List.range (it.i - it.j + 1)).map fun t => 2 ^ (it.i - t)).sum

theorem sum_map_le {α : Type} (l : List α) {f g : α → Nat} (h : ∀ x ∈ l, f x ≤ g x) : (l.map f).sum ≤ (l.map g).sum := by
  induction l with
  | nil => simp
  | cons x l ih =>
    simp only [List.map_cons, List.sum_cons]
    exact Nat.add_le_add (h x (by simp)) (ih fun y hy => h y (by simp [hy]))

theorem itemBits_le (v : Nat) (it : LayoutItem) : itemBits v it ≤ itemMax it := by
  unfold itemBits itemMax
  split
  · exact Nat.mul_le_mul_right _ (Nat.le_sub_one_of_lt (bitsOf_lt _ _ _))
  · refine sum_map_le _ fun t _ => ?_
    have := bitsOf_lt v (it.pos + t) 1
    exact (Nat.mul_le_mul_right _ (Nat.le_of_lt_succ this)).trans (by simp)

/-- Under the default tables every field of an endpoint fits the precision of its mode. -/
theorem fieldOf_lt {c : Config} (hc : c.tables = none) {k : BptcfMode} (hk : k ∈ bptcfModes c) {ch : Nat} (hch : ch < 3)
    (v ep : Nat) : fieldOf k.layout v ch ep < 2 ^ k.epb := by
  have key : ∀ k ∈ stdBptcfModes, (∀ it ∈ k.layout, it.ep < 4) ∧ ∀ ch, ch < 3 → ∀ ep, ep < 4 →
      ((k.layout.filter fun it => it.ch == ch && it.ep == ep).map itemMax).sum < 2 ^ k.epb := by decide +kernel
  have hk' : k ∈ stdBptcfModes := by simpa [bptcfModes, hc] using hk
  obtain ⟨h4, hs⟩ := key k hk'
  unfold fieldOf
  by_cases he : ep < 4
  · exact (sum_map_le _ fun it _ => itemBits_le v it).trans_lt (hs ch hch ep he)
  · have : (k.layout.filter fun it => it.ch == ch && it.ep == ep) = [] := by
      rw [List.filter_eq_nil_iff]
      intro it hit
      have := h4 it hit
      simp only [Bool.and_eq_true, beq_iff_eq, not_and]
      omega
    rw [this]
    exact Nat.two_pow_pos _

theorem endpointBits_lt {c : Config} (hc : c.tables = none) {k : BptcfMode} (hk : k ∈ bptcfModes c) {ch : Nat}
    (hch : ch < 3) (v ep : Nat) : endpointBits k v ch ep < 2 ^ k.epb := by
  unfold endpointBits
  split
  · exact fieldOf_lt hc hk hch v ep
  · have hp : (0 : Int) < (2 ^ k.epb : Nat) := by exact_mod_cast Nat.two_pow_pos _
    have h1 := Int.emod_lt_of_pos ((fieldOf k.layout v ch 0 : Int) + sext (deltaBits k ch) (fieldOf k.layout v ch ep)) hp
    have h2 := Int.emod_nonneg ((fieldOf k.layout v ch 0 : Int) + sext (deltaBits k ch) (fieldOf k.layout v ch ep))
      (Int.ne_of_gt hp)
    omega

theorem unqU_range {epb x : Nat} (h16 : epb ≤ 16) (hx : x < 2 ^ epb) : 0 ≤ unqU epb x ∧ unqU epb x ≤ 65535 := by
  have hp := Nat.two_pow_pos epb
  have hle : 2 ^ epb ≤ 2 ^ 16 := Nat.pow_le_pow_right (by omega) h16
  unfold unqU
  split
  · omega
  · split
    · omega
    · split
      · omega
      · have e : ((x * 65536 + 0x8000) / 2 ^ epb : Nat) = ((x : Int) * 65536 + 0x8000) / ((2 ^ epb : Nat) : Int) := by
          rw [Int.natCast_ediv]; rfl
        have : (x * 65536 + 0x8000) / 2 ^ epb < 65536 := by
          rw [Nat.div_lt_iff_lt_mul hp]; omega
        rw [← e]
        exact ⟨Int.natCast_nonneg _, Int.ofNat_le.mpr (Nat.le_of_lt_succ this)⟩

theorem sext_range {n v : Nat} (hn : 1 ≤ n) : -(2 ^ (n - 1) : Nat) ≤ sext n v ∧ sext n v < (2 ^ (n - 1) : Nat) := by
  have hp : 2 ^ n = 2 * 2 ^ (n - 1) := by rw [← Nat.pow_succ']; congr 1; omega
  have := Nat.mod_lt v (Nat.two_pow_pos n)
  unfold sext
  split <;> omega

theorem unqS_range {epb : Nat} {x : Int} (h1 : 1 ≤ epb) (h16 : epb ≤ 16) (hl : -(2 ^ (epb - 1) : Nat) ≤ x)
    (hu : x < (2 ^ (epb - 1) : Nat)) : -32768 ≤ unqS epb x ∧ unqS epb x ≤ 32767 := by
  have hp := Nat.two_pow_pos (epb - 1)
  have hle : 2 ^ (epb - 1) ≤ 2 ^ 15 := Nat.pow_le_pow_right (by omega) (by omega)
  unfold unqS
  split
  · omega
  · have hm : (if x.natAbs = 0 then 0 else if 2 ^ (epb - 1) - 1 ≤ x.natAbs then 0x7FFF
        else (x.natAbs * 32768 + 0x4000) / 2 ^ (epb - 1)) ≤ 0x7FFF := by
      split
      · omega
      · split
        · omega
        · rw [← Nat.lt_succ_iff, Nat.div_lt_iff_lt_mul hp]; omega
    dsimp only
    split <;> omega

/-- Under the default tables every interpolated value lies in the range of its kind (46_bptc_float.md rule R317), so that
its byte is that of its half-float. -/
theorem bptcfValue_fits {c : Config} (hc : c.tables = none) (signed : Bool) {k : BptcfMode} (hk : k ∈ bptcfModes c)
    (v : Nat) (idx : List Nat) (t : Nat) {ch : Nat} (hch : ch < 3) :
    halfFits signed (bptcfValue c signed k v idx t ch) = true := by
  have he : 1 ≤ k.epb ∧ k.epb ≤ 16 := by
    have key : ∀ k ∈ stdBptcfModes, 1 ≤ k.epb ∧ k.epb ≤ 16 := by decide
    exact key k (by simpa [bptcfModes, hc] using hk)
  have hw := bc7W_le hc (bptcfIndexBits k) (idx.getD t 0)
  cases signed with
  | false =>
    have h := fun ep => unqU_range he.2 (endpointBits_lt hc hk hch v ep)
    obtain ⟨l, u⟩ := halfInterp_range hw (h (2 * bc7Subset c k.regions (bptcfPartition v) t))
      (h (2 * bc7Subset c k.regions (bptcfPartition v) t + 1))
    exact halfFits_unsigned l u
  | true =>
    have h := fun ep => unqS_range he.1 he.2 (sext_range (v := endpointBits k v ch ep) he.1).1 (sext_range he.1).2
    obtain ⟨l, u⟩ := halfInterp_range hw (h (2 * bc7Subset c k.regions (bptcfPartition v) t))
      (h (2 * bc7Subset c k.regions (bptcfPartition v) t + 1))
    exact halfFits_signed l u

theorem halfByte_default {c : Config} (hc : c.tables = none) (signed : Bool) {k : BptcfMode} (hk : k ∈ bptcfModes c)
    (v : Nat) (idx : List Nat) (t : Nat) {ch : Nat} (hch : ch < 3) :
    halfByte c signed (bptcfValue c signed k v idx t ch) = halfToByte c (bptcfHalf c signed k v idx t ch) :=
  if_pos (bptcfValue_fits hc signed hk v idx t hch)

end Sys2Proof.Machine
end

