-- ==== Sys2Proof/Laws/Decode.lean ====
section
/-! SUPPORT. What a decoded word can be. -/

namespace Sys2Proof

@[simp] theorem chdecOf_slot (lay : Layout) (f : PlainFmt) : (chdecOf lay f).slot = .inOp := by cases lay <;> rfl
@[simp] theorem chencOf_slot (lay : Layout) (f : PlainFmt) : (chencOf lay f).slot = .outPack := by cases lay <;> rfl
@[simp] theorem blkOf_slot (k : Special) (ro : Reorder) : (blkOf k ro).slot = .inOp := by cases k <;> rfl
@[simp] theorem reordOf_slot (ro : Reorder) : (reordOf ro).slot = .inReorder := by cases ro <;> rfl
@[simp] theorem filtOf_slot (fi : Filter) : (filtOf fi).slot = .outFilter := by cases fi <;> rfl

theorem decodeCmd_slot {c : Nat} {i : Instr} (h : decodeCmd c = .ok i) : i.slot = .cmd := by
  unfold decodeCmd at h
  split at h <;> cases h <;> rfl

theorem decodeInOp_slot {d : DescWord} {ro : Reorder} {i : Instr} (h : decodeInOp d ro = .ok i) : i.slot = .inOp := by
  unfold decodeInOp at h
  split at h
  · cases h; simp
  · split at h <;> cases h
    · simp
    · rfl

theorem decodeOutPack_slot {d : DescWord} {i : Instr} (h : decodeOutPack d = .ok i) : i.slot = .outPack := by
  unfold decodeOutPack at h
  split at h
  · cases h
  · split at h <;> cases h
    simp

/-- A decoded instruction belongs to the slot it was read for. -/
theorem decode_slot {sl : Slot} {d : DescWord} {i : Instr} (h : decode sl d = .ok i) : i.slot = sl := by
  unfold decode at h
  cases sl with
  | cmd => exact decodeCmd_slot h
  | validate => cases h; rfl
  | inOp =>
    dsimp only at h
    split at h <;> [cases h; split at h <;> [cases h; split at h]]
    · cases h
    · cases h
    · exact decodeInOp_slot h
  | inReorder =>
    dsimp only at h
    split at h <;> [cases h; split at h <;> [cases h; split at h]]
    · cases h
    · cases h
    · cases h; simp
  | outFilter =>
    dsimp only at h
    split at h <;> [cases h; split at h <;> [cases h; split at h]]
    · cases h
    · cases h
    · cases h; simp
  | outPack =>
    dsimp only at h
    split at h <;> [cases h; split at h <;> [cases h; split at h]]
    · cases h
    · cases h
    · exact decodeOutPack_slot h

end Sys2Proof
end

