-- ==== Sys2Proof/Laws/Memory.lean ====
section
/-! SUPPORT. The laws of a buffer: reading after writing, and the canonical form (20_memory.md rule R50). -/

namespace Sys2Proof.Machine

/-! ## Reading after writing one byte -/

@[simp] theorem Memory.read_nil (a : Nat) : Memory.read [] a = unlistedByte := rfl

theorem Memory.read_below {m : Memory} {n a : Nat} (h : m.risingFrom n = true) (ha : a < n) : m.read a = unlistedByte := by
  induction m generalizing n with
  | nil => rfl
  | cons c t ih =>
    obtain ⟨b, v⟩ := c
    simp only [Memory.risingFrom, Bool.and_eq_true, decide_eq_true_eq] at h
    have hb : b ≠ a := by omega
    simp only [Memory.read, hb, if_false]
    exact ih h.2 (by omega)

theorem Memory.read_cell_append (a : Nat) (v : Byte) (t : Memory) (x : Nat) (h : t.read a = unlistedByte) :
    Memory.read (Memory.cell a v ++ t) x = if x = a then v else t.read x := by
  by_cases hv : v = unlistedByte
  · by_cases hx : x = a <;> simp_all [Memory.cell]
  · by_cases hx : x = a
    · subst hx; simp [Memory.cell, hv, Memory.read]
    · simp [Memory.cell, hv, Memory.read, hx, Ne.symm hx]

/-- Reading after a write gives the byte written at its address and the old byte elsewhere. -/
theorem Memory.read_write {m : Memory} {n : Nat} (h : m.risingFrom n = true) (a : Nat) (v : Byte) (x : Nat) :
    (m.write a v).read x = if x = a then v else m.read x := by
  induction m generalizing n with
  | nil => simpa [Memory.write] using Memory.read_cell_append a v [] x rfl
  | cons c t ih =>
    obtain ⟨b, w⟩ := c
    have h' := h
    simp only [Memory.risingFrom, Bool.and_eq_true, decide_eq_true_eq] at h'
    unfold Memory.write
    split
    · rename_i hab
      refine Memory.read_cell_append a v _ x ?_
      have hb : b ≠ a := by omega
      simp only [Memory.read, hb, if_false]
      exact Memory.read_below h'.2 (by omega)
    · split
      · rename_i hab
        subst hab
        rw [Memory.read_cell_append a v t x (Memory.read_below h'.2 (by omega))]
        by_cases hx : x = a
        · simp [hx]
        · simp [hx, Memory.read, Ne.symm hx]
      · rename_i hab hne
        by_cases hx : b = x
        · subst hx; simp [Memory.read, Ne.symm hne]
        · simp only [Memory.read, hx, if_false]; exact ih h'.2

/-! ## The canonical form -/

theorem Memory.risingFrom_mono {m : Memory} {n k : Nat} (h : m.risingFrom n = true) (hk : k ≤ n) :
    m.risingFrom k = true := by
  cases m with
  | nil => rfl
  | cons c t =>
    obtain ⟨b, v⟩ := c
    simp only [Memory.risingFrom, Bool.and_eq_true, decide_eq_true_eq] at h ⊢
    exact ⟨⟨by omega, h.1.2⟩, h.2⟩

theorem Memory.cell_rising {a n : Nat} {v : Byte} {t : Memory} (hn : n ≤ a) (h : t.risingFrom (a + 1) = true) :
    Memory.risingFrom (Memory.cell a v ++ t) n = true := by
  by_cases hv : v = unlistedByte
  · simpa [Memory.cell, hv] using Memory.risingFrom_mono h (by omega)
  · simp [Memory.cell, hv, Memory.risingFrom, hn, h]

theorem Memory.write_rising {m : Memory} {n a : Nat} {v : Byte} (h : m.risingFrom n = true) (hn : n ≤ a) :
    (m.write a v).risingFrom n = true := by
  induction m generalizing n with
  | nil => simpa [Memory.write] using Memory.cell_rising (t := []) hn rfl
  | cons c t ih =>
    obtain ⟨b, w⟩ := c
    have h' := h
    simp only [Memory.risingFrom, Bool.and_eq_true, decide_eq_true_eq] at h'
    unfold Memory.write
    split
    · exact Memory.cell_rising hn
        (by simp only [Memory.risingFrom, Bool.and_eq_true, decide_eq_true_eq]; exact ⟨⟨by omega, h'.1.2⟩, h'.2⟩)
    · split
      · rename_i hab; subst hab; exact Memory.cell_rising hn h'.2
      · simp only [Memory.risingFrom, Bool.and_eq_true, decide_eq_true_eq]
        exact ⟨h'.1, ih h'.2 (by omega)⟩

/-- A write keeps the canonical form. -/
theorem Memory.write_wf {m : Memory} {a : Nat} {v : Byte} (h : m.wf = true) : (m.write a v).wf = true :=
  Memory.write_rising h (Nat.zero_le a)

/-- Writing a list of bytes keeps the canonical form. -/
theorem Memory.writeBytes_wf {m : Memory} {a : Nat} (bs : List Byte) (h : m.wf = true) :
    (m.writeBytes a bs).wf = true := by
  induction bs generalizing m a with
  | nil => exact h
  | cons v t ih => exact ih (Memory.write_wf h)

@[simp] theorem Memory.nil_wf : Memory.wf [] = true := rfl

/-- What a byte list written from `a` reads as. -/
theorem Memory.read_writeBytes {m : Memory} (h : m.wf = true) (a : Nat) (bs : List Byte) (x : Nat) :
    (m.writeBytes a bs).read x = if a ≤ x ∧ x < a + bs.length then bs.getD (x - a) 0 else m.read x := by
  induction bs generalizing m a with
  | nil => simp [Memory.writeBytes]
  | cons v t ih =>
    rw [Memory.writeBytes, ih (Memory.write_wf h), Memory.read_write h]
    by_cases h1 : a + 1 ≤ x ∧ x < a + 1 + t.length
    · have : x - a = x - (a + 1) + 1 := by omega
      simp [h1, this, show a ≤ x ∧ x < a + (t.length + 1) by omega]
    · by_cases h2 : x = a
      · simp [h2]
      · have h3 : ¬ (a ≤ x ∧ x < a + (v :: t).length) := by simp only [List.length_cons]; omega
        rw [if_neg h1, if_neg h2, if_neg h3]

/-- Two buffers in canonical form that read alike are equal. -/
theorem Memory.ext_read {m k : Memory} {n : Nat} (hm : m.risingFrom n = true) (hk : k.risingFrom n = true)
    (h : ∀ x, m.read x = k.read x) : m = k := by
  induction m generalizing k n with
  | nil =>
    cases k with
    | nil => rfl
    | cons c t =>
      obtain ⟨b, v⟩ := c
      have := h b
      simp [Memory.read, Memory.risingFrom] at this hk
      exact absurd this.symm hk.1.2
  | cons c t ih =>
    obtain ⟨b, v⟩ := c
    have hm' := hm
    simp only [Memory.risingFrom, Bool.and_eq_true, decide_eq_true_eq, bne_iff_ne] at hm'
    cases k with
    | nil =>
      have := h b
      simp [Memory.read] at this
      exact absurd this hm'.1.2
    | cons d u =>
      obtain ⟨e, w⟩ := d
      have hk' := hk
      simp only [Memory.risingFrom, Bool.and_eq_true, decide_eq_true_eq, bne_iff_ne] at hk'
      have hbe : b = e := by
        by_contra hne
        rcases Nat.lt_or_gt_of_ne hne with hlt | hgt
        · have := h b
          simp only [Memory.read, if_true] at this
          rw [if_neg (by omega), Memory.read_below hk'.2 (by omega)] at this
          exact hm'.1.2 this
        · have := h e
          simp only [Memory.read, if_true] at this
          rw [if_neg (by omega), Memory.read_below hm'.2 (by omega)] at this
          exact hk'.1.2 this.symm
      subst hbe
      have hv : v = w := by simpa [Memory.read] using h b
      subst hv
      refine congrArg _ (ih hm'.2 hk'.2 fun x => ?_)
      by_cases hx : x < b + 1
      · rw [Memory.read_below hm'.2 hx, Memory.read_below hk'.2 hx]
      · have := h x
        simpa [Memory.read, show b ≠ x by omega] using this

end Sys2Proof.Machine
end

