-- ==== Sys2Proof/Laws/HostPort.lean ====
section
/-! SUPPORT. What the guards of the host's port let through, and what placing a byte in one of a list of buffers does. -/

namespace Sys2Proof.Machine

/-- An access goes on exactly outside `BUSY`, with no command pending. -/
theorem whileIdle_next {α : Type} {s : State} {r : Answer α} {x : α} :
    whileIdle s r = .next x ↔ (s.status ≠ .busy ∧ s.cmd = none) ∧ r = .next x := by
  unfold whileIdle
  split
  · rename_i h
    exact ⟨fun e => by (cases e), fun e => (h.elim e.1.1 (· e.1.2)).elim⟩
  · rename_i h
    rw [not_or, not_not] at h
    exact ⟨fun e => ⟨h, e⟩, fun e => e.2⟩

/-- An access to element `k` goes on exactly below `PAL_MAX`. -/
theorem indexed_next {α : Type} {s : State} {k : Nat} {r : Answer α} {x : α} :
    indexed s k r = .next x ↔ k < s.cfg.palMax ∧ r = .next x := by
  unfold indexed; split <;> simp_all

/-- A write to a buffer goes on exactly below 2^32. -/
theorem addressed_next {α : Type} {a : Nat} {r : Answer α} {x : α} :
    addressed a r = .next x ↔ a < 2 ^ 32 ∧ r = .next x := by
  unfold addressed addressLimit; split <;> simp_all

@[simp] theorem putByte_length (ms : List Memory) (k a : Nat) (v : Byte) : (putByte ms k a v).length = ms.length := by
  simp [putByte]

/-- The buffers after a byte has been placed in one that exists. -/
theorem putByte_getD {ms : List Memory} {k : Nat} (hk : k < ms.length) (a : Nat) (v : Byte) (j : Nat) :
    (putByte ms k a v).getD j [] = if j = k then (ms.getD k []).write a v else ms.getD j [] := by
  unfold putByte
  split
  · subst j; simp [List.getD_eq_getElem?_getD, hk]
  · rename_i h; simp [List.getD_eq_getElem?_getD, List.getElem?_set_ne (Ne.symm h)]

end Sys2Proof.Machine
end

