-- ==== Sys2Proof/Laws/PerInstr.lean ====
section
/-! SUPPORT. Statements for all instructions, one lemma per constructor. -/

namespace Sys2Proof.Laws

/-- The word of a well-formed instruction fits below the reserved bits 63:40 (30_encoding.md rule R85). -/
def EncodingFits.Statement (i : Instr) : Prop := i.wf = true → encodeNat i < 2 ^ 40

theorem plainWord_fits {lay : Layout} {f : PlainFmt} (h : f.wf lay = true) : plainWord lay.code f < 2 ^ 40 := by
  simp only [PlainFmt.wf, PlainFmt.widthsLegal, Bool.and_eq_true, decide_eq_true_eq] at h
  have h1 : f.bpp.code ≤ 7 := by cases f.bpp <;> decide
  have h2 : lay.code ≤ 13 := by cases lay <;> decide
  have h3 : f.force.code ≤ 1 := by cases f.force <;> decide
  unfold plainWord
  omega

theorem specialWord_fits (k : Special) (ro : Reorder) : specialWord k ro < 2 ^ 40 := by
  have h1 : k.code ≤ 18 := by cases k <;> decide
  have h2 : ro.code ≤ 4 := by cases ro <;> decide
  unfold specialWord
  omega

theorem EncodingFits.start : EncodingFits.Statement (.start) := fun _ => by decide
theorem EncodingFits.clear : EncodingFits.Statement (.clear) := fun _ => by decide
theorem EncodingFits.validate : EncodingFits.Statement (.validate) := fun _ => by decide
theorem EncodingFits.chdecRgb (f : PlainFmt) : EncodingFits.Statement (.chdecRgb f) := fun h => plainWord_fits (lay := .rgb) h
theorem EncodingFits.chdecRgba (f : PlainFmt) : EncodingFits.Statement (.chdecRgba f) := fun h => plainWord_fits (lay := .rgba) h
theorem EncodingFits.chdecBgra (f : PlainFmt) : EncodingFits.Statement (.chdecBgra f) := fun h => plainWord_fits (lay := .bgra) h
theorem EncodingFits.chdecArgb (f : PlainFmt) : EncodingFits.Statement (.chdecArgb f) := fun h => plainWord_fits (lay := .argb) h
theorem EncodingFits.chdecAbgr (f : PlainFmt) : EncodingFits.Statement (.chdecAbgr f) := fun h => plainWord_fits (lay := .abgr) h
theorem EncodingFits.chdecRgbx (f : PlainFmt) : EncodingFits.Statement (.chdecRgbx f) := fun h => plainWord_fits (lay := .rgbx) h
theorem EncodingFits.chdecBgrx (f : PlainFmt) : EncodingFits.Statement (.chdecBgrx f) := fun h => plainWord_fits (lay := .bgrx) h
theorem EncodingFits.chdecXrgb (f : PlainFmt) : EncodingFits.Statement (.chdecXrgb f) := fun h => plainWord_fits (lay := .xrgb) h
theorem EncodingFits.chdecXbgr (f : PlainFmt) : EncodingFits.Statement (.chdecXbgr f) := fun h => plainWord_fits (lay := .xbgr) h
theorem EncodingFits.chdecL (f : PlainFmt) : EncodingFits.Statement (.chdecL f) := fun h => plainWord_fits (lay := .l) h
theorem EncodingFits.chdecA (f : PlainFmt) : EncodingFits.Statement (.chdecA f) := fun h => plainWord_fits (lay := .a) h
theorem EncodingFits.chdecLa (f : PlainFmt) : EncodingFits.Statement (.chdecLa f) := fun h => plainWord_fits (lay := .la) h
theorem EncodingFits.chdecAl (f : PlainFmt) : EncodingFits.Statement (.chdecAl f) := fun h => plainWord_fits (lay := .al) h
theorem EncodingFits.idx (bpp : Bpp) : EncodingFits.Statement (.idx bpp) := fun _ => by cases bpp <;> decide
theorem EncodingFits.chencRgb (f : PlainFmt) : EncodingFits.Statement (.chencRgb f) := fun h => plainWord_fits (lay := .rgb) h
theorem EncodingFits.chencRgba (f : PlainFmt) : EncodingFits.Statement (.chencRgba f) := fun h => plainWord_fits (lay := .rgba) h
theorem EncodingFits.chencBgra (f : PlainFmt) : EncodingFits.Statement (.chencBgra f) := fun h => plainWord_fits (lay := .bgra) h
theorem EncodingFits.chencArgb (f : PlainFmt) : EncodingFits.Statement (.chencArgb f) := fun h => plainWord_fits (lay := .argb) h
theorem EncodingFits.chencAbgr (f : PlainFmt) : EncodingFits.Statement (.chencAbgr f) := fun h => plainWord_fits (lay := .abgr) h
theorem EncodingFits.chencRgbx (f : PlainFmt) : EncodingFits.Statement (.chencRgbx f) := fun h => plainWord_fits (lay := .rgbx) h
theorem EncodingFits.chencBgrx (f : PlainFmt) : EncodingFits.Statement (.chencBgrx f) := fun h => plainWord_fits (lay := .bgrx) h
theorem EncodingFits.chencXrgb (f : PlainFmt) : EncodingFits.Statement (.chencXrgb f) := fun h => plainWord_fits (lay := .xrgb) h
theorem EncodingFits.chencXbgr (f : PlainFmt) : EncodingFits.Statement (.chencXbgr f) := fun h => plainWord_fits (lay := .xbgr) h
theorem EncodingFits.chencL (f : PlainFmt) : EncodingFits.Statement (.chencL f) := fun h => plainWord_fits (lay := .l) h
theorem EncodingFits.chencA (f : PlainFmt) : EncodingFits.Statement (.chencA f) := fun h => plainWord_fits (lay := .a) h
theorem EncodingFits.chencLa (f : PlainFmt) : EncodingFits.Statement (.chencLa f) := fun h => plainWord_fits (lay := .la) h
theorem EncodingFits.chencAl (f : PlainFmt) : EncodingFits.Statement (.chencAl f) := fun h => plainWord_fits (lay := .al) h
theorem EncodingFits.blkEtc1 (ro : Reorder) : EncodingFits.Statement (.blkEtc1 ro) := fun _ => specialWord_fits _ _
theorem EncodingFits.blkEtc1a4 (ro : Reorder) : EncodingFits.Statement (.blkEtc1a4 ro) := fun _ => specialWord_fits _ _
theorem EncodingFits.blkDxt1 (ro : Reorder) : EncodingFits.Statement (.blkDxt1 ro) := fun _ => specialWord_fits _ _
theorem EncodingFits.blkDxt1alt (ro : Reorder) : EncodingFits.Statement (.blkDxt1alt ro) := fun _ => specialWord_fits _ _
theorem EncodingFits.blkDxt1psp (ro : Reorder) : EncodingFits.Statement (.blkDxt1psp ro) := fun _ => specialWord_fits _ _
theorem EncodingFits.blkDxt3 (ro : Reorder) : EncodingFits.Statement (.blkDxt3 ro) := fun _ => specialWord_fits _ _
theorem EncodingFits.blkDxt3psp (ro : Reorder) : EncodingFits.Statement (.blkDxt3psp ro) := fun _ => specialWord_fits _ _
theorem EncodingFits.blkDxt5 (ro : Reorder) : EncodingFits.Statement (.blkDxt5 ro) := fun _ => specialWord_fits _ _
theorem EncodingFits.blkDxt5psp (ro : Reorder) : EncodingFits.Statement (.blkDxt5psp ro) := fun _ => specialWord_fits _ _
theorem EncodingFits.blkRgtc1 (ro : Reorder) : EncodingFits.Statement (.blkRgtc1 ro) := fun _ => specialWord_fits _ _
theorem EncodingFits.blkRgtc1s (ro : Reorder) : EncodingFits.Statement (.blkRgtc1s ro) := fun _ => specialWord_fits _ _
theorem EncodingFits.blkRgtc2 (ro : Reorder) : EncodingFits.Statement (.blkRgtc2 ro) := fun _ => specialWord_fits _ _
theorem EncodingFits.blkRgtc2s (ro : Reorder) : EncodingFits.Statement (.blkRgtc2s ro) := fun _ => specialWord_fits _ _
theorem EncodingFits.blkBptc (ro : Reorder) : EncodingFits.Statement (.blkBptc ro) := fun _ => specialWord_fits _ _
theorem EncodingFits.blkBptcf (ro : Reorder) : EncodingFits.Statement (.blkBptcf ro) := fun _ => specialWord_fits _ _
theorem EncodingFits.blkBptcsf (ro : Reorder) : EncodingFits.Statement (.blkBptcsf ro) := fun _ => specialWord_fits _ _
theorem EncodingFits.blkPvrt2 (ro : Reorder) : EncodingFits.Statement (.blkPvrt2 ro) := fun _ => specialWord_fits _ _
theorem EncodingFits.blkPvrt4 (ro : Reorder) : EncodingFits.Statement (.blkPvrt4 ro) := fun _ => specialWord_fits _ _
theorem EncodingFits.reordLinear : EncodingFits.Statement (.reordLinear) := fun _ => by decide
theorem EncodingFits.reordTile3ds : EncodingFits.Statement (.reordTile3ds) := fun _ => by decide
theorem EncodingFits.reordMorton : EncodingFits.Statement (.reordMorton) := fun _ => by decide
theorem EncodingFits.reordPsp : EncodingFits.Statement (.reordPsp) := fun _ => by decide
theorem EncodingFits.reordSwitch : EncodingFits.Statement (.reordSwitch) := fun _ => by decide
theorem EncodingFits.filtNone : EncodingFits.Statement (.filtNone) := fun _ => by decide
theorem EncodingFits.filtDither : EncodingFits.Statement (.filtDither) := fun _ => by decide

end Sys2Proof.Laws
end

