-- ==== Sys2Proof/Laws/State.lean ====
section
/-! SUPPORT. Each named update of the state, field by field: what it sets and what it leaves. -/

namespace Sys2Proof.Machine

/-! ## markWritten -/

@[simp] theorem State.markWritten_cfg (s : State) (r : JobReg) : (s.markWritten r).cfg = s.cfg := rfl
@[simp] theorem State.markWritten_width (s : State) (r : JobReg) : (s.markWritten r).width = s.width := rfl
@[simp] theorem State.markWritten_height (s : State) (r : JobReg) : (s.markWritten r).height = s.height := rfl
@[simp] theorem State.markWritten_inFmt (s : State) (r : JobReg) : (s.markWritten r).inFmt = s.inFmt := rfl
@[simp] theorem State.markWritten_inEnd (s : State) (r : JobReg) : (s.markWritten r).inEnd = s.inEnd := rfl
@[simp] theorem State.markWritten_outFmt (s : State) (r : JobReg) : (s.markWritten r).outFmt = s.outFmt := rfl
@[simp] theorem State.markWritten_outEnd (s : State) (r : JobReg) : (s.markWritten r).outEnd = s.outEnd := rfl
@[simp] theorem State.markWritten_palFmt (s : State) (r : JobReg) : (s.markWritten r).palFmt = s.palFmt := rfl
@[simp] theorem State.markWritten_palEnd (s : State) (r : JobReg) : (s.markWritten r).palEnd = s.palEnd := rfl
@[simp] theorem State.markWritten_palCount (s : State) (r : JobReg) : (s.markWritten r).palCount = s.palCount := rfl
@[simp] theorem State.markWritten_inLen (s : State) (r : JobReg) : (s.markWritten r).inLen = s.inLen := rfl
@[simp] theorem State.markWritten_palLen (s : State) (r : JobReg) : (s.markWritten r).palLen = s.palLen := rfl
@[simp] theorem State.markWritten_status (s : State) (r : JobReg) : (s.markWritten r).status = s.status := rfl
@[simp] theorem State.markWritten_errCode (s : State) (r : JobReg) : (s.markWritten r).errCode = s.errCode := rfl
@[simp] theorem State.markWritten_errInfo (s : State) (r : JobReg) : (s.markWritten r).errInfo = s.errInfo := rfl
@[simp] theorem State.markWritten_outLen (s : State) (r : JobReg) : (s.markWritten r).outLen = s.outLen := rfl
@[simp] theorem State.markWritten_tblLen (s : State) (r : JobReg) : (s.markWritten r).tblLen = s.tblLen := rfl
@[simp] theorem State.markWritten_cmd (s : State) (r : JobReg) : (s.markWritten r).cmd = s.cmd := rfl
@[simp] theorem State.markWritten_inBuf (s : State) (r : JobReg) : (s.markWritten r).inBuf = s.inBuf := rfl
@[simp] theorem State.markWritten_pal (s : State) (r : JobReg) : (s.markWritten r).pal = s.pal := rfl
@[simp] theorem State.markWritten_out (s : State) (r : JobReg) : (s.markWritten r).out = s.out := rfl
@[simp] theorem State.markWritten_tbl (s : State) (r : JobReg) : (s.markWritten r).tbl = s.tbl := rfl
@[simp] theorem State.markWritten_stage (s : State) (r : JobReg) : (s.markWritten r).stage = s.stage := rfl
@[simp] theorem State.markWritten_cur (s : State) (r : JobReg) : (s.markWritten r).cur = s.cur := rfl
@[simp] theorem State.markWritten_canon (s : State) (r : JobReg) : (s.markWritten r).canon = s.canon := rfl
@[simp] theorem State.markWritten_idxBuf (s : State) (r : JobReg) : (s.markWritten r).idxBuf = s.idxBuf := rfl
@[simp] theorem State.markWritten_tables (s : State) (r : JobReg) : (s.markWritten r).tables = s.tables := rfl
@[simp] theorem State.markWritten_tile (s : State) (r : JobReg) : (s.markWritten r).tile = s.tile := rfl
@[simp] theorem State.markWritten_fault (s : State) (r : JobReg) : (s.markWritten r).fault = s.fault := rfl
@[simp] theorem State.markWritten_written (s : State) (r : JobReg) : (s.markWritten r).written = if s.written.contains r then s.written else r :: s.written := rfl
@[simp] theorem State.markWritten_jobs (s : State) (r : JobReg) : (s.markWritten r).jobs = s.jobs := rfl

/-! ## toStage -/

@[simp] theorem State.toStage_cfg (s : State) (g : Stage) : (s.toStage g).cfg = s.cfg := rfl
@[simp] theorem State.toStage_width (s : State) (g : Stage) : (s.toStage g).width = s.width := rfl
@[simp] theorem State.toStage_height (s : State) (g : Stage) : (s.toStage g).height = s.height := rfl
@[simp] theorem State.toStage_inFmt (s : State) (g : Stage) : (s.toStage g).inFmt = s.inFmt := rfl
@[simp] theorem State.toStage_inEnd (s : State) (g : Stage) : (s.toStage g).inEnd = s.inEnd := rfl
@[simp] theorem State.toStage_outFmt (s : State) (g : Stage) : (s.toStage g).outFmt = s.outFmt := rfl
@[simp] theorem State.toStage_outEnd (s : State) (g : Stage) : (s.toStage g).outEnd = s.outEnd := rfl
@[simp] theorem State.toStage_palFmt (s : State) (g : Stage) : (s.toStage g).palFmt = s.palFmt := rfl
@[simp] theorem State.toStage_palEnd (s : State) (g : Stage) : (s.toStage g).palEnd = s.palEnd := rfl
@[simp] theorem State.toStage_palCount (s : State) (g : Stage) : (s.toStage g).palCount = s.palCount := rfl
@[simp] theorem State.toStage_inLen (s : State) (g : Stage) : (s.toStage g).inLen = s.inLen := rfl
@[simp] theorem State.toStage_palLen (s : State) (g : Stage) : (s.toStage g).palLen = s.palLen := rfl
@[simp] theorem State.toStage_status (s : State) (g : Stage) : (s.toStage g).status = s.status := rfl
@[simp] theorem State.toStage_errCode (s : State) (g : Stage) : (s.toStage g).errCode = s.errCode := rfl
@[simp] theorem State.toStage_errInfo (s : State) (g : Stage) : (s.toStage g).errInfo = s.errInfo := rfl
@[simp] theorem State.toStage_outLen (s : State) (g : Stage) : (s.toStage g).outLen = s.outLen := rfl
@[simp] theorem State.toStage_tblLen (s : State) (g : Stage) : (s.toStage g).tblLen = s.tblLen := rfl
@[simp] theorem State.toStage_cmd (s : State) (g : Stage) : (s.toStage g).cmd = s.cmd := rfl
@[simp] theorem State.toStage_inBuf (s : State) (g : Stage) : (s.toStage g).inBuf = s.inBuf := rfl
@[simp] theorem State.toStage_pal (s : State) (g : Stage) : (s.toStage g).pal = s.pal := rfl
@[simp] theorem State.toStage_out (s : State) (g : Stage) : (s.toStage g).out = s.out := rfl
@[simp] theorem State.toStage_tbl (s : State) (g : Stage) : (s.toStage g).tbl = s.tbl := rfl
@[simp] theorem State.toStage_stage (s : State) (g : Stage) : (s.toStage g).stage = g := rfl
@[simp] theorem State.toStage_cur (s : State) (g : Stage) : (s.toStage g).cur = s.cur := rfl
@[simp] theorem State.toStage_canon (s : State) (g : Stage) : (s.toStage g).canon = s.canon := rfl
@[simp] theorem State.toStage_idxBuf (s : State) (g : Stage) : (s.toStage g).idxBuf = s.idxBuf := rfl
@[simp] theorem State.toStage_tables (s : State) (g : Stage) : (s.toStage g).tables = s.tables := rfl
@[simp] theorem State.toStage_tile (s : State) (g : Stage) : (s.toStage g).tile = s.tile := rfl
@[simp] theorem State.toStage_fault (s : State) (g : Stage) : (s.toStage g).fault = s.fault := rfl
@[simp] theorem State.toStage_written (s : State) (g : Stage) : (s.toStage g).written = s.written := rfl
@[simp] theorem State.toStage_jobs (s : State) (g : Stage) : (s.toStage g).jobs = s.jobs := rfl

/-! ## takeCmd -/

@[simp] theorem State.takeCmd_cfg (s : State) : s.takeCmd.cfg = s.cfg := rfl
@[simp] theorem State.takeCmd_width (s : State) : s.takeCmd.width = s.width := rfl
@[simp] theorem State.takeCmd_height (s : State) : s.takeCmd.height = s.height := rfl
@[simp] theorem State.takeCmd_inFmt (s : State) : s.takeCmd.inFmt = s.inFmt := rfl
@[simp] theorem State.takeCmd_inEnd (s : State) : s.takeCmd.inEnd = s.inEnd := rfl
@[simp] theorem State.takeCmd_outFmt (s : State) : s.takeCmd.outFmt = s.outFmt := rfl
@[simp] theorem State.takeCmd_outEnd (s : State) : s.takeCmd.outEnd = s.outEnd := rfl
@[simp] theorem State.takeCmd_palFmt (s : State) : s.takeCmd.palFmt = s.palFmt := rfl
@[simp] theorem State.takeCmd_palEnd (s : State) : s.takeCmd.palEnd = s.palEnd := rfl
@[simp] theorem State.takeCmd_palCount (s : State) : s.takeCmd.palCount = s.palCount := rfl
@[simp] theorem State.takeCmd_inLen (s : State) : s.takeCmd.inLen = s.inLen := rfl
@[simp] theorem State.takeCmd_palLen (s : State) : s.takeCmd.palLen = s.palLen := rfl
@[simp] theorem State.takeCmd_status (s : State) : s.takeCmd.status = s.status := rfl
@[simp] theorem State.takeCmd_errCode (s : State) : s.takeCmd.errCode = s.errCode := rfl
@[simp] theorem State.takeCmd_errInfo (s : State) : s.takeCmd.errInfo = s.errInfo := rfl
@[simp] theorem State.takeCmd_outLen (s : State) : s.takeCmd.outLen = s.outLen := rfl
@[simp] theorem State.takeCmd_tblLen (s : State) : s.takeCmd.tblLen = s.tblLen := rfl
@[simp] theorem State.takeCmd_cmd (s : State) : s.takeCmd.cmd = none := rfl
@[simp] theorem State.takeCmd_inBuf (s : State) : s.takeCmd.inBuf = s.inBuf := rfl
@[simp] theorem State.takeCmd_pal (s : State) : s.takeCmd.pal = s.pal := rfl
@[simp] theorem State.takeCmd_out (s : State) : s.takeCmd.out = s.out := rfl
@[simp] theorem State.takeCmd_tbl (s : State) : s.takeCmd.tbl = s.tbl := rfl
@[simp] theorem State.takeCmd_stage (s : State) : s.takeCmd.stage = s.stage := rfl
@[simp] theorem State.takeCmd_cur (s : State) : s.takeCmd.cur = s.cur := rfl
@[simp] theorem State.takeCmd_canon (s : State) : s.takeCmd.canon = s.canon := rfl
@[simp] theorem State.takeCmd_idxBuf (s : State) : s.takeCmd.idxBuf = s.idxBuf := rfl
@[simp] theorem State.takeCmd_tables (s : State) : s.takeCmd.tables = s.tables := rfl
@[simp] theorem State.takeCmd_tile (s : State) : s.takeCmd.tile = s.tile := rfl
@[simp] theorem State.takeCmd_fault (s : State) : s.takeCmd.fault = s.fault := rfl
@[simp] theorem State.takeCmd_written (s : State) : s.takeCmd.written = s.written := rfl
@[simp] theorem State.takeCmd_jobs (s : State) : s.takeCmd.jobs = s.jobs := rfl

/-! ## dropJob -/

@[simp] theorem State.dropJob_cfg (s : State) : s.dropJob.cfg = s.cfg := rfl
@[simp] theorem State.dropJob_width (s : State) : s.dropJob.width = s.width := rfl
@[simp] theorem State.dropJob_height (s : State) : s.dropJob.height = s.height := rfl
@[simp] theorem State.dropJob_inFmt (s : State) : s.dropJob.inFmt = s.inFmt := rfl
@[simp] theorem State.dropJob_inEnd (s : State) : s.dropJob.inEnd = s.inEnd := rfl
@[simp] theorem State.dropJob_outFmt (s : State) : s.dropJob.outFmt = s.outFmt := rfl
@[simp] theorem State.dropJob_outEnd (s : State) : s.dropJob.outEnd = s.outEnd := rfl
@[simp] theorem State.dropJob_palFmt (s : State) : s.dropJob.palFmt = s.palFmt := rfl
@[simp] theorem State.dropJob_palEnd (s : State) : s.dropJob.palEnd = s.palEnd := rfl
@[simp] theorem State.dropJob_palCount (s : State) : s.dropJob.palCount = s.palCount := rfl
@[simp] theorem State.dropJob_inLen (s : State) : s.dropJob.inLen = s.inLen := rfl
@[simp] theorem State.dropJob_palLen (s : State) : s.dropJob.palLen = s.palLen := rfl
@[simp] theorem State.dropJob_status (s : State) : s.dropJob.status = s.status := rfl
@[simp] theorem State.dropJob_errCode (s : State) : s.dropJob.errCode = s.errCode := rfl
@[simp] theorem State.dropJob_errInfo (s : State) : s.dropJob.errInfo = s.errInfo := rfl
@[simp] theorem State.dropJob_outLen (s : State) : s.dropJob.outLen = s.outLen := rfl
@[simp] theorem State.dropJob_tblLen (s : State) : s.dropJob.tblLen = s.tblLen := rfl
@[simp] theorem State.dropJob_cmd (s : State) : s.dropJob.cmd = s.cmd := rfl
@[simp] theorem State.dropJob_inBuf (s : State) : s.dropJob.inBuf = s.inBuf := rfl
@[simp] theorem State.dropJob_pal (s : State) : s.dropJob.pal = s.pal := rfl
@[simp] theorem State.dropJob_out (s : State) : s.dropJob.out = s.out := rfl
@[simp] theorem State.dropJob_tbl (s : State) : s.dropJob.tbl = s.tbl := rfl
@[simp] theorem State.dropJob_stage (s : State) : s.dropJob.stage = s.stage := rfl
@[simp] theorem State.dropJob_cur (s : State) : s.dropJob.cur = 0 := rfl
@[simp] theorem State.dropJob_canon (s : State) : s.dropJob.canon = [] := rfl
@[simp] theorem State.dropJob_idxBuf (s : State) : s.dropJob.idxBuf = [] := rfl
@[simp] theorem State.dropJob_tables (s : State) : s.dropJob.tables = [] := rfl
@[simp] theorem State.dropJob_tile (s : State) : s.dropJob.tile = [] := rfl
@[simp] theorem State.dropJob_fault (s : State) : s.dropJob.fault = none := rfl
@[simp] theorem State.dropJob_written (s : State) : s.dropJob.written = s.written := rfl
@[simp] theorem State.dropJob_jobs (s : State) : s.dropJob.jobs = s.jobs := rfl

/-! ## beginJob -/

@[simp] theorem State.beginJob_cfg (s : State) : s.beginJob.cfg = s.cfg := rfl
@[simp] theorem State.beginJob_width (s : State) : s.beginJob.width = s.width := rfl
@[simp] theorem State.beginJob_height (s : State) : s.beginJob.height = s.height := rfl
@[simp] theorem State.beginJob_inFmt (s : State) : s.beginJob.inFmt = s.inFmt := rfl
@[simp] theorem State.beginJob_inEnd (s : State) : s.beginJob.inEnd = s.inEnd := rfl
@[simp] theorem State.beginJob_outFmt (s : State) : s.beginJob.outFmt = s.outFmt := rfl
@[simp] theorem State.beginJob_outEnd (s : State) : s.beginJob.outEnd = s.outEnd := rfl
@[simp] theorem State.beginJob_palFmt (s : State) : s.beginJob.palFmt = s.palFmt := rfl
@[simp] theorem State.beginJob_palEnd (s : State) : s.beginJob.palEnd = s.palEnd := rfl
@[simp] theorem State.beginJob_palCount (s : State) : s.beginJob.palCount = s.palCount := rfl
@[simp] theorem State.beginJob_inLen (s : State) : s.beginJob.inLen = s.inLen := rfl
@[simp] theorem State.beginJob_palLen (s : State) : s.beginJob.palLen = s.palLen := rfl
@[simp] theorem State.beginJob_status (s : State) : s.beginJob.status = .busy := rfl
@[simp] theorem State.beginJob_errCode (s : State) : s.beginJob.errCode = s.errCode := rfl
@[simp] theorem State.beginJob_errInfo (s : State) : s.beginJob.errInfo = s.errInfo := rfl
@[simp] theorem State.beginJob_outLen (s : State) : s.beginJob.outLen = s.outLen := rfl
@[simp] theorem State.beginJob_tblLen (s : State) : s.beginJob.tblLen = s.tblLen := rfl
@[simp] theorem State.beginJob_cmd (s : State) : s.beginJob.cmd = s.cmd := rfl
@[simp] theorem State.beginJob_inBuf (s : State) : s.beginJob.inBuf = s.inBuf := rfl
@[simp] theorem State.beginJob_pal (s : State) : s.beginJob.pal = s.pal := rfl
@[simp] theorem State.beginJob_out (s : State) : s.beginJob.out = s.out := rfl
@[simp] theorem State.beginJob_tbl (s : State) : s.beginJob.tbl = s.tbl := rfl
@[simp] theorem State.beginJob_stage (s : State) : s.beginJob.stage = .validate := rfl
@[simp] theorem State.beginJob_cur (s : State) : s.beginJob.cur = 0 := rfl
@[simp] theorem State.beginJob_canon (s : State) : s.beginJob.canon = [] := rfl
@[simp] theorem State.beginJob_idxBuf (s : State) : s.beginJob.idxBuf = [] := rfl
@[simp] theorem State.beginJob_tables (s : State) : s.beginJob.tables = [] := rfl
@[simp] theorem State.beginJob_tile (s : State) : s.beginJob.tile = [] := rfl
@[simp] theorem State.beginJob_fault (s : State) : s.beginJob.fault = none := rfl
@[simp] theorem State.beginJob_written (s : State) : s.beginJob.written = s.written := rfl
@[simp] theorem State.beginJob_jobs (s : State) : s.beginJob.jobs = s.jobs := rfl

/-! ## setFault -/

@[simp] theorem State.setFault_cfg (s : State) (e : ErrCode) (v : Word32) : (s.setFault e v).cfg = s.cfg := rfl
@[simp] theorem State.setFault_width (s : State) (e : ErrCode) (v : Word32) : (s.setFault e v).width = s.width := rfl
@[simp] theorem State.setFault_height (s : State) (e : ErrCode) (v : Word32) : (s.setFault e v).height = s.height := rfl
@[simp] theorem State.setFault_inFmt (s : State) (e : ErrCode) (v : Word32) : (s.setFault e v).inFmt = s.inFmt := rfl
@[simp] theorem State.setFault_inEnd (s : State) (e : ErrCode) (v : Word32) : (s.setFault e v).inEnd = s.inEnd := rfl
@[simp] theorem State.setFault_outFmt (s : State) (e : ErrCode) (v : Word32) : (s.setFault e v).outFmt = s.outFmt := rfl
@[simp] theorem State.setFault_outEnd (s : State) (e : ErrCode) (v : Word32) : (s.setFault e v).outEnd = s.outEnd := rfl
@[simp] theorem State.setFault_palFmt (s : State) (e : ErrCode) (v : Word32) : (s.setFault e v).palFmt = s.palFmt := rfl
@[simp] theorem State.setFault_palEnd (s : State) (e : ErrCode) (v : Word32) : (s.setFault e v).palEnd = s.palEnd := rfl
@[simp] theorem State.setFault_palCount (s : State) (e : ErrCode) (v : Word32) : (s.setFault e v).palCount = s.palCount := rfl
@[simp] theorem State.setFault_inLen (s : State) (e : ErrCode) (v : Word32) : (s.setFault e v).inLen = s.inLen := rfl
@[simp] theorem State.setFault_palLen (s : State) (e : ErrCode) (v : Word32) : (s.setFault e v).palLen = s.palLen := rfl
@[simp] theorem State.setFault_status (s : State) (e : ErrCode) (v : Word32) : (s.setFault e v).status = s.status := rfl
@[simp] theorem State.setFault_errCode (s : State) (e : ErrCode) (v : Word32) : (s.setFault e v).errCode = s.errCode := rfl
@[simp] theorem State.setFault_errInfo (s : State) (e : ErrCode) (v : Word32) : (s.setFault e v).errInfo = s.errInfo := rfl
@[simp] theorem State.setFault_outLen (s : State) (e : ErrCode) (v : Word32) : (s.setFault e v).outLen = s.outLen := rfl
@[simp] theorem State.setFault_tblLen (s : State) (e : ErrCode) (v : Word32) : (s.setFault e v).tblLen = s.tblLen := rfl
@[simp] theorem State.setFault_cmd (s : State) (e : ErrCode) (v : Word32) : (s.setFault e v).cmd = s.cmd := rfl
@[simp] theorem State.setFault_inBuf (s : State) (e : ErrCode) (v : Word32) : (s.setFault e v).inBuf = s.inBuf := rfl
@[simp] theorem State.setFault_pal (s : State) (e : ErrCode) (v : Word32) : (s.setFault e v).pal = s.pal := rfl
@[simp] theorem State.setFault_out (s : State) (e : ErrCode) (v : Word32) : (s.setFault e v).out = s.out := rfl
@[simp] theorem State.setFault_tbl (s : State) (e : ErrCode) (v : Word32) : (s.setFault e v).tbl = s.tbl := rfl
@[simp] theorem State.setFault_stage (s : State) (e : ErrCode) (v : Word32) : (s.setFault e v).stage = s.stage := rfl
@[simp] theorem State.setFault_cur (s : State) (e : ErrCode) (v : Word32) : (s.setFault e v).cur = s.cur := rfl
@[simp] theorem State.setFault_canon (s : State) (e : ErrCode) (v : Word32) : (s.setFault e v).canon = s.canon := rfl
@[simp] theorem State.setFault_idxBuf (s : State) (e : ErrCode) (v : Word32) : (s.setFault e v).idxBuf = s.idxBuf := rfl
@[simp] theorem State.setFault_tables (s : State) (e : ErrCode) (v : Word32) : (s.setFault e v).tables = s.tables := rfl
@[simp] theorem State.setFault_tile (s : State) (e : ErrCode) (v : Word32) : (s.setFault e v).tile = s.tile := rfl
@[simp] theorem State.setFault_fault (s : State) (e : ErrCode) (v : Word32) : (s.setFault e v).fault = some (e, v) := rfl
@[simp] theorem State.setFault_written (s : State) (e : ErrCode) (v : Word32) : (s.setFault e v).written = s.written := rfl
@[simp] theorem State.setFault_jobs (s : State) (e : ErrCode) (v : Word32) : (s.setFault e v).jobs = s.jobs := rfl

/-! ## raise -/

@[simp] theorem State.raise_cfg (s : State) (e : ErrCode) (v : Word32) : (s.raise e v).cfg = s.cfg := rfl
@[simp] theorem State.raise_width (s : State) (e : ErrCode) (v : Word32) : (s.raise e v).width = s.width := rfl
@[simp] theorem State.raise_height (s : State) (e : ErrCode) (v : Word32) : (s.raise e v).height = s.height := rfl
@[simp] theorem State.raise_inFmt (s : State) (e : ErrCode) (v : Word32) : (s.raise e v).inFmt = s.inFmt := rfl
@[simp] theorem State.raise_inEnd (s : State) (e : ErrCode) (v : Word32) : (s.raise e v).inEnd = s.inEnd := rfl
@[simp] theorem State.raise_outFmt (s : State) (e : ErrCode) (v : Word32) : (s.raise e v).outFmt = s.outFmt := rfl
@[simp] theorem State.raise_outEnd (s : State) (e : ErrCode) (v : Word32) : (s.raise e v).outEnd = s.outEnd := rfl
@[simp] theorem State.raise_palFmt (s : State) (e : ErrCode) (v : Word32) : (s.raise e v).palFmt = s.palFmt := rfl
@[simp] theorem State.raise_palEnd (s : State) (e : ErrCode) (v : Word32) : (s.raise e v).palEnd = s.palEnd := rfl
@[simp] theorem State.raise_palCount (s : State) (e : ErrCode) (v : Word32) : (s.raise e v).palCount = s.palCount := rfl
@[simp] theorem State.raise_inLen (s : State) (e : ErrCode) (v : Word32) : (s.raise e v).inLen = s.inLen := rfl
@[simp] theorem State.raise_palLen (s : State) (e : ErrCode) (v : Word32) : (s.raise e v).palLen = s.palLen := rfl
@[simp] theorem State.raise_status (s : State) (e : ErrCode) (v : Word32) : (s.raise e v).status = .error := rfl
@[simp] theorem State.raise_errCode (s : State) (e : ErrCode) (v : Word32) : (s.raise e v).errCode = e := rfl
@[simp] theorem State.raise_errInfo (s : State) (e : ErrCode) (v : Word32) : (s.raise e v).errInfo = v := rfl
@[simp] theorem State.raise_outLen (s : State) (e : ErrCode) (v : Word32) : (s.raise e v).outLen = s.outLen := rfl
@[simp] theorem State.raise_tblLen (s : State) (e : ErrCode) (v : Word32) : (s.raise e v).tblLen = s.tblLen := rfl
@[simp] theorem State.raise_cmd (s : State) (e : ErrCode) (v : Word32) : (s.raise e v).cmd = s.cmd := rfl
@[simp] theorem State.raise_inBuf (s : State) (e : ErrCode) (v : Word32) : (s.raise e v).inBuf = s.inBuf := rfl
@[simp] theorem State.raise_pal (s : State) (e : ErrCode) (v : Word32) : (s.raise e v).pal = s.pal := rfl
@[simp] theorem State.raise_out (s : State) (e : ErrCode) (v : Word32) : (s.raise e v).out = s.out := rfl
@[simp] theorem State.raise_tbl (s : State) (e : ErrCode) (v : Word32) : (s.raise e v).tbl = s.tbl := rfl
@[simp] theorem State.raise_stage (s : State) (e : ErrCode) (v : Word32) : (s.raise e v).stage = .error := rfl
@[simp] theorem State.raise_cur (s : State) (e : ErrCode) (v : Word32) : (s.raise e v).cur = 0 := rfl
@[simp] theorem State.raise_canon (s : State) (e : ErrCode) (v : Word32) : (s.raise e v).canon = [] := rfl
@[simp] theorem State.raise_idxBuf (s : State) (e : ErrCode) (v : Word32) : (s.raise e v).idxBuf = [] := rfl
@[simp] theorem State.raise_tables (s : State) (e : ErrCode) (v : Word32) : (s.raise e v).tables = [] := rfl
@[simp] theorem State.raise_tile (s : State) (e : ErrCode) (v : Word32) : (s.raise e v).tile = [] := rfl
@[simp] theorem State.raise_fault (s : State) (e : ErrCode) (v : Word32) : (s.raise e v).fault = none := rfl
@[simp] theorem State.raise_written (s : State) (e : ErrCode) (v : Word32) : (s.raise e v).written = s.written := rfl
@[simp] theorem State.raise_jobs (s : State) (e : ErrCode) (v : Word32) : (s.raise e v).jobs = s.jobs := rfl

/-! ## finish -/

@[simp] theorem State.finish_cfg (s : State) : s.finish.cfg = s.cfg := rfl
@[simp] theorem State.finish_width (s : State) : s.finish.width = s.width := rfl
@[simp] theorem State.finish_height (s : State) : s.finish.height = s.height := rfl
@[simp] theorem State.finish_inFmt (s : State) : s.finish.inFmt = s.inFmt := rfl
@[simp] theorem State.finish_inEnd (s : State) : s.finish.inEnd = s.inEnd := rfl
@[simp] theorem State.finish_outFmt (s : State) : s.finish.outFmt = s.outFmt := rfl
@[simp] theorem State.finish_outEnd (s : State) : s.finish.outEnd = s.outEnd := rfl
@[simp] theorem State.finish_palFmt (s : State) : s.finish.palFmt = s.palFmt := rfl
@[simp] theorem State.finish_palEnd (s : State) : s.finish.palEnd = s.palEnd := rfl
@[simp] theorem State.finish_palCount (s : State) : s.finish.palCount = s.palCount := rfl
@[simp] theorem State.finish_inLen (s : State) : s.finish.inLen = s.inLen := rfl
@[simp] theorem State.finish_palLen (s : State) : s.finish.palLen = s.palLen := rfl
@[simp] theorem State.finish_status (s : State) : s.finish.status = .done := rfl
@[simp] theorem State.finish_errCode (s : State) : s.finish.errCode = .none := rfl
@[simp] theorem State.finish_errInfo (s : State) : s.finish.errInfo = 0 := rfl
@[simp] theorem State.finish_outLen (s : State) : s.finish.outLen = s.outLen := rfl
@[simp] theorem State.finish_tblLen (s : State) : s.finish.tblLen = s.tblLen := rfl
@[simp] theorem State.finish_cmd (s : State) : s.finish.cmd = s.cmd := rfl
@[simp] theorem State.finish_inBuf (s : State) : s.finish.inBuf = s.inBuf := rfl
@[simp] theorem State.finish_pal (s : State) : s.finish.pal = s.pal := rfl
@[simp] theorem State.finish_out (s : State) : s.finish.out = s.out := rfl
@[simp] theorem State.finish_tbl (s : State) : s.finish.tbl = s.tbl := rfl
@[simp] theorem State.finish_stage (s : State) : s.finish.stage = .done := rfl
@[simp] theorem State.finish_cur (s : State) : s.finish.cur = 0 := rfl
@[simp] theorem State.finish_canon (s : State) : s.finish.canon = [] := rfl
@[simp] theorem State.finish_idxBuf (s : State) : s.finish.idxBuf = [] := rfl
@[simp] theorem State.finish_tables (s : State) : s.finish.tables = [] := rfl
@[simp] theorem State.finish_tile (s : State) : s.finish.tile = [] := rfl
@[simp] theorem State.finish_fault (s : State) : s.finish.fault = none := rfl
@[simp] theorem State.finish_written (s : State) : s.finish.written = s.written := rfl
@[simp] theorem State.finish_jobs (s : State) : s.finish.jobs = s.jobs + 1 := rfl

/-! ## clearStatus -/

@[simp] theorem State.clearStatus_cfg (s : State) : s.clearStatus.cfg = s.cfg := rfl
@[simp] theorem State.clearStatus_width (s : State) : s.clearStatus.width = s.width := rfl
@[simp] theorem State.clearStatus_height (s : State) : s.clearStatus.height = s.height := rfl
@[simp] theorem State.clearStatus_inFmt (s : State) : s.clearStatus.inFmt = s.inFmt := rfl
@[simp] theorem State.clearStatus_inEnd (s : State) : s.clearStatus.inEnd = s.inEnd := rfl
@[simp] theorem State.clearStatus_outFmt (s : State) : s.clearStatus.outFmt = s.outFmt := rfl
@[simp] theorem State.clearStatus_outEnd (s : State) : s.clearStatus.outEnd = s.outEnd := rfl
@[simp] theorem State.clearStatus_palFmt (s : State) : s.clearStatus.palFmt = s.palFmt := rfl
@[simp] theorem State.clearStatus_palEnd (s : State) : s.clearStatus.palEnd = s.palEnd := rfl
@[simp] theorem State.clearStatus_palCount (s : State) : s.clearStatus.palCount = s.palCount := rfl
@[simp] theorem State.clearStatus_inLen (s : State) : s.clearStatus.inLen = s.inLen := rfl
@[simp] theorem State.clearStatus_palLen (s : State) : s.clearStatus.palLen = s.palLen := rfl
@[simp] theorem State.clearStatus_status (s : State) : s.clearStatus.status = .idle := rfl
@[simp] theorem State.clearStatus_errCode (s : State) : s.clearStatus.errCode = .none := rfl
@[simp] theorem State.clearStatus_errInfo (s : State) : s.clearStatus.errInfo = 0 := rfl
@[simp] theorem State.clearStatus_outLen (s : State) : s.clearStatus.outLen = s.outLen := rfl
@[simp] theorem State.clearStatus_tblLen (s : State) : s.clearStatus.tblLen = s.tblLen := rfl
@[simp] theorem State.clearStatus_cmd (s : State) : s.clearStatus.cmd = s.cmd := rfl
@[simp] theorem State.clearStatus_inBuf (s : State) : s.clearStatus.inBuf = s.inBuf := rfl
@[simp] theorem State.clearStatus_pal (s : State) : s.clearStatus.pal = s.pal := rfl
@[simp] theorem State.clearStatus_out (s : State) : s.clearStatus.out = s.out := rfl
@[simp] theorem State.clearStatus_tbl (s : State) : s.clearStatus.tbl = s.tbl := rfl
@[simp] theorem State.clearStatus_stage (s : State) : s.clearStatus.stage = s.stage := rfl
@[simp] theorem State.clearStatus_cur (s : State) : s.clearStatus.cur = s.cur := rfl
@[simp] theorem State.clearStatus_canon (s : State) : s.clearStatus.canon = s.canon := rfl
@[simp] theorem State.clearStatus_idxBuf (s : State) : s.clearStatus.idxBuf = s.idxBuf := rfl
@[simp] theorem State.clearStatus_tables (s : State) : s.clearStatus.tables = s.tables := rfl
@[simp] theorem State.clearStatus_tile (s : State) : s.clearStatus.tile = s.tile := rfl
@[simp] theorem State.clearStatus_fault (s : State) : s.clearStatus.fault = s.fault := rfl
@[simp] theorem State.clearStatus_written (s : State) : s.clearStatus.written = s.written := rfl
@[simp] theorem State.clearStatus_jobs (s : State) : s.clearStatus.jobs = s.jobs := rfl

/-! ## decoded -/

@[simp] theorem State.decoded_cfg (s : State) (px : List Pixel) (n : Nat) (tl : List Pixel) : (s.decoded px n tl).cfg = s.cfg := rfl
@[simp] theorem State.decoded_width (s : State) (px : List Pixel) (n : Nat) (tl : List Pixel) : (s.decoded px n tl).width = s.width := rfl
@[simp] theorem State.decoded_height (s : State) (px : List Pixel) (n : Nat) (tl : List Pixel) : (s.decoded px n tl).height = s.height := rfl
@[simp] theorem State.decoded_inFmt (s : State) (px : List Pixel) (n : Nat) (tl : List Pixel) : (s.decoded px n tl).inFmt = s.inFmt := rfl
@[simp] theorem State.decoded_inEnd (s : State) (px : List Pixel) (n : Nat) (tl : List Pixel) : (s.decoded px n tl).inEnd = s.inEnd := rfl
@[simp] theorem State.decoded_outFmt (s : State) (px : List Pixel) (n : Nat) (tl : List Pixel) : (s.decoded px n tl).outFmt = s.outFmt := rfl
@[simp] theorem State.decoded_outEnd (s : State) (px : List Pixel) (n : Nat) (tl : List Pixel) : (s.decoded px n tl).outEnd = s.outEnd := rfl
@[simp] theorem State.decoded_palFmt (s : State) (px : List Pixel) (n : Nat) (tl : List Pixel) : (s.decoded px n tl).palFmt = s.palFmt := rfl
@[simp] theorem State.decoded_palEnd (s : State) (px : List Pixel) (n : Nat) (tl : List Pixel) : (s.decoded px n tl).palEnd = s.palEnd := rfl
@[simp] theorem State.decoded_palCount (s : State) (px : List Pixel) (n : Nat) (tl : List Pixel) : (s.decoded px n tl).palCount = s.palCount := rfl
@[simp] theorem State.decoded_inLen (s : State) (px : List Pixel) (n : Nat) (tl : List Pixel) : (s.decoded px n tl).inLen = s.inLen := rfl
@[simp] theorem State.decoded_palLen (s : State) (px : List Pixel) (n : Nat) (tl : List Pixel) : (s.decoded px n tl).palLen = s.palLen := rfl
@[simp] theorem State.decoded_status (s : State) (px : List Pixel) (n : Nat) (tl : List Pixel) : (s.decoded px n tl).status = s.status := rfl
@[simp] theorem State.decoded_errCode (s : State) (px : List Pixel) (n : Nat) (tl : List Pixel) : (s.decoded px n tl).errCode = s.errCode := rfl
@[simp] theorem State.decoded_errInfo (s : State) (px : List Pixel) (n : Nat) (tl : List Pixel) : (s.decoded px n tl).errInfo = s.errInfo := rfl
@[simp] theorem State.decoded_outLen (s : State) (px : List Pixel) (n : Nat) (tl : List Pixel) : (s.decoded px n tl).outLen = s.outLen := rfl
@[simp] theorem State.decoded_tblLen (s : State) (px : List Pixel) (n : Nat) (tl : List Pixel) : (s.decoded px n tl).tblLen = s.tblLen := rfl
@[simp] theorem State.decoded_cmd (s : State) (px : List Pixel) (n : Nat) (tl : List Pixel) : (s.decoded px n tl).cmd = s.cmd := rfl
@[simp] theorem State.decoded_inBuf (s : State) (px : List Pixel) (n : Nat) (tl : List Pixel) : (s.decoded px n tl).inBuf = s.inBuf := rfl
@[simp] theorem State.decoded_pal (s : State) (px : List Pixel) (n : Nat) (tl : List Pixel) : (s.decoded px n tl).pal = s.pal := rfl
@[simp] theorem State.decoded_out (s : State) (px : List Pixel) (n : Nat) (tl : List Pixel) : (s.decoded px n tl).out = s.out := rfl
@[simp] theorem State.decoded_tbl (s : State) (px : List Pixel) (n : Nat) (tl : List Pixel) : (s.decoded px n tl).tbl = s.tbl := rfl
@[simp] theorem State.decoded_stage (s : State) (px : List Pixel) (n : Nat) (tl : List Pixel) : (s.decoded px n tl).stage = .reorder := rfl
@[simp] theorem State.decoded_cur (s : State) (px : List Pixel) (n : Nat) (tl : List Pixel) : (s.decoded px n tl).cur = BitVec.ofNat 32 n := rfl
@[simp] theorem State.decoded_canon (s : State) (px : List Pixel) (n : Nat) (tl : List Pixel) : (s.decoded px n tl).canon = px := rfl
@[simp] theorem State.decoded_idxBuf (s : State) (px : List Pixel) (n : Nat) (tl : List Pixel) : (s.decoded px n tl).idxBuf = s.idxBuf := rfl
@[simp] theorem State.decoded_tables (s : State) (px : List Pixel) (n : Nat) (tl : List Pixel) : (s.decoded px n tl).tables = s.tables := rfl
@[simp] theorem State.decoded_tile (s : State) (px : List Pixel) (n : Nat) (tl : List Pixel) : (s.decoded px n tl).tile = tl := rfl
@[simp] theorem State.decoded_fault (s : State) (px : List Pixel) (n : Nat) (tl : List Pixel) : (s.decoded px n tl).fault = s.fault := rfl
@[simp] theorem State.decoded_written (s : State) (px : List Pixel) (n : Nat) (tl : List Pixel) : (s.decoded px n tl).written = s.written := rfl
@[simp] theorem State.decoded_jobs (s : State) (px : List Pixel) (n : Nat) (tl : List Pixel) : (s.decoded px n tl).jobs = s.jobs := rfl

/-! ## decodedIdx -/

@[simp] theorem State.decodedIdx_cfg (s : State) (ix : List Byte) (tb : List (List Pixel)) (n : Nat) : (s.decodedIdx ix tb n).cfg = s.cfg := rfl
@[simp] theorem State.decodedIdx_width (s : State) (ix : List Byte) (tb : List (List Pixel)) (n : Nat) : (s.decodedIdx ix tb n).width = s.width := rfl
@[simp] theorem State.decodedIdx_height (s : State) (ix : List Byte) (tb : List (List Pixel)) (n : Nat) : (s.decodedIdx ix tb n).height = s.height := rfl
@[simp] theorem State.decodedIdx_inFmt (s : State) (ix : List Byte) (tb : List (List Pixel)) (n : Nat) : (s.decodedIdx ix tb n).inFmt = s.inFmt := rfl
@[simp] theorem State.decodedIdx_inEnd (s : State) (ix : List Byte) (tb : List (List Pixel)) (n : Nat) : (s.decodedIdx ix tb n).inEnd = s.inEnd := rfl
@[simp] theorem State.decodedIdx_outFmt (s : State) (ix : List Byte) (tb : List (List Pixel)) (n : Nat) : (s.decodedIdx ix tb n).outFmt = s.outFmt := rfl
@[simp] theorem State.decodedIdx_outEnd (s : State) (ix : List Byte) (tb : List (List Pixel)) (n : Nat) : (s.decodedIdx ix tb n).outEnd = s.outEnd := rfl
@[simp] theorem State.decodedIdx_palFmt (s : State) (ix : List Byte) (tb : List (List Pixel)) (n : Nat) : (s.decodedIdx ix tb n).palFmt = s.palFmt := rfl
@[simp] theorem State.decodedIdx_palEnd (s : State) (ix : List Byte) (tb : List (List Pixel)) (n : Nat) : (s.decodedIdx ix tb n).palEnd = s.palEnd := rfl
@[simp] theorem State.decodedIdx_palCount (s : State) (ix : List Byte) (tb : List (List Pixel)) (n : Nat) : (s.decodedIdx ix tb n).palCount = s.palCount := rfl
@[simp] theorem State.decodedIdx_inLen (s : State) (ix : List Byte) (tb : List (List Pixel)) (n : Nat) : (s.decodedIdx ix tb n).inLen = s.inLen := rfl
@[simp] theorem State.decodedIdx_palLen (s : State) (ix : List Byte) (tb : List (List Pixel)) (n : Nat) : (s.decodedIdx ix tb n).palLen = s.palLen := rfl
@[simp] theorem State.decodedIdx_status (s : State) (ix : List Byte) (tb : List (List Pixel)) (n : Nat) : (s.decodedIdx ix tb n).status = s.status := rfl
@[simp] theorem State.decodedIdx_errCode (s : State) (ix : List Byte) (tb : List (List Pixel)) (n : Nat) : (s.decodedIdx ix tb n).errCode = s.errCode := rfl
@[simp] theorem State.decodedIdx_errInfo (s : State) (ix : List Byte) (tb : List (List Pixel)) (n : Nat) : (s.decodedIdx ix tb n).errInfo = s.errInfo := rfl
@[simp] theorem State.decodedIdx_outLen (s : State) (ix : List Byte) (tb : List (List Pixel)) (n : Nat) : (s.decodedIdx ix tb n).outLen = s.outLen := rfl
@[simp] theorem State.decodedIdx_tblLen (s : State) (ix : List Byte) (tb : List (List Pixel)) (n : Nat) : (s.decodedIdx ix tb n).tblLen = s.tblLen := rfl
@[simp] theorem State.decodedIdx_cmd (s : State) (ix : List Byte) (tb : List (List Pixel)) (n : Nat) : (s.decodedIdx ix tb n).cmd = s.cmd := rfl
@[simp] theorem State.decodedIdx_inBuf (s : State) (ix : List Byte) (tb : List (List Pixel)) (n : Nat) : (s.decodedIdx ix tb n).inBuf = s.inBuf := rfl
@[simp] theorem State.decodedIdx_pal (s : State) (ix : List Byte) (tb : List (List Pixel)) (n : Nat) : (s.decodedIdx ix tb n).pal = s.pal := rfl
@[simp] theorem State.decodedIdx_out (s : State) (ix : List Byte) (tb : List (List Pixel)) (n : Nat) : (s.decodedIdx ix tb n).out = s.out := rfl
@[simp] theorem State.decodedIdx_tbl (s : State) (ix : List Byte) (tb : List (List Pixel)) (n : Nat) : (s.decodedIdx ix tb n).tbl = s.tbl := rfl
@[simp] theorem State.decodedIdx_stage (s : State) (ix : List Byte) (tb : List (List Pixel)) (n : Nat) : (s.decodedIdx ix tb n).stage = .reorder := rfl
@[simp] theorem State.decodedIdx_cur (s : State) (ix : List Byte) (tb : List (List Pixel)) (n : Nat) : (s.decodedIdx ix tb n).cur = BitVec.ofNat 32 n := rfl
@[simp] theorem State.decodedIdx_canon (s : State) (ix : List Byte) (tb : List (List Pixel)) (n : Nat) : (s.decodedIdx ix tb n).canon = s.canon := rfl
@[simp] theorem State.decodedIdx_idxBuf (s : State) (ix : List Byte) (tb : List (List Pixel)) (n : Nat) : (s.decodedIdx ix tb n).idxBuf = ix := rfl
@[simp] theorem State.decodedIdx_tables (s : State) (ix : List Byte) (tb : List (List Pixel)) (n : Nat) : (s.decodedIdx ix tb n).tables = tb := rfl
@[simp] theorem State.decodedIdx_tile (s : State) (ix : List Byte) (tb : List (List Pixel)) (n : Nat) : (s.decodedIdx ix tb n).tile = s.tile := rfl
@[simp] theorem State.decodedIdx_fault (s : State) (ix : List Byte) (tb : List (List Pixel)) (n : Nat) : (s.decodedIdx ix tb n).fault = s.fault := rfl
@[simp] theorem State.decodedIdx_written (s : State) (ix : List Byte) (tb : List (List Pixel)) (n : Nat) : (s.decodedIdx ix tb n).written = s.written := rfl
@[simp] theorem State.decodedIdx_jobs (s : State) (ix : List Byte) (tb : List (List Pixel)) (n : Nat) : (s.decodedIdx ix tb n).jobs = s.jobs := rfl

/-! ## withCanon -/

@[simp] theorem State.withCanon_cfg (s : State) (px : List Pixel) (g : Stage) : (s.withCanon px g).cfg = s.cfg := rfl
@[simp] theorem State.withCanon_width (s : State) (px : List Pixel) (g : Stage) : (s.withCanon px g).width = s.width := rfl
@[simp] theorem State.withCanon_height (s : State) (px : List Pixel) (g : Stage) : (s.withCanon px g).height = s.height := rfl
@[simp] theorem State.withCanon_inFmt (s : State) (px : List Pixel) (g : Stage) : (s.withCanon px g).inFmt = s.inFmt := rfl
@[simp] theorem State.withCanon_inEnd (s : State) (px : List Pixel) (g : Stage) : (s.withCanon px g).inEnd = s.inEnd := rfl
@[simp] theorem State.withCanon_outFmt (s : State) (px : List Pixel) (g : Stage) : (s.withCanon px g).outFmt = s.outFmt := rfl
@[simp] theorem State.withCanon_outEnd (s : State) (px : List Pixel) (g : Stage) : (s.withCanon px g).outEnd = s.outEnd := rfl
@[simp] theorem State.withCanon_palFmt (s : State) (px : List Pixel) (g : Stage) : (s.withCanon px g).palFmt = s.palFmt := rfl
@[simp] theorem State.withCanon_palEnd (s : State) (px : List Pixel) (g : Stage) : (s.withCanon px g).palEnd = s.palEnd := rfl
@[simp] theorem State.withCanon_palCount (s : State) (px : List Pixel) (g : Stage) : (s.withCanon px g).palCount = s.palCount := rfl
@[simp] theorem State.withCanon_inLen (s : State) (px : List Pixel) (g : Stage) : (s.withCanon px g).inLen = s.inLen := rfl
@[simp] theorem State.withCanon_palLen (s : State) (px : List Pixel) (g : Stage) : (s.withCanon px g).palLen = s.palLen := rfl
@[simp] theorem State.withCanon_status (s : State) (px : List Pixel) (g : Stage) : (s.withCanon px g).status = s.status := rfl
@[simp] theorem State.withCanon_errCode (s : State) (px : List Pixel) (g : Stage) : (s.withCanon px g).errCode = s.errCode := rfl
@[simp] theorem State.withCanon_errInfo (s : State) (px : List Pixel) (g : Stage) : (s.withCanon px g).errInfo = s.errInfo := rfl
@[simp] theorem State.withCanon_outLen (s : State) (px : List Pixel) (g : Stage) : (s.withCanon px g).outLen = s.outLen := rfl
@[simp] theorem State.withCanon_tblLen (s : State) (px : List Pixel) (g : Stage) : (s.withCanon px g).tblLen = s.tblLen := rfl
@[simp] theorem State.withCanon_cmd (s : State) (px : List Pixel) (g : Stage) : (s.withCanon px g).cmd = s.cmd := rfl
@[simp] theorem State.withCanon_inBuf (s : State) (px : List Pixel) (g : Stage) : (s.withCanon px g).inBuf = s.inBuf := rfl
@[simp] theorem State.withCanon_pal (s : State) (px : List Pixel) (g : Stage) : (s.withCanon px g).pal = s.pal := rfl
@[simp] theorem State.withCanon_out (s : State) (px : List Pixel) (g : Stage) : (s.withCanon px g).out = s.out := rfl
@[simp] theorem State.withCanon_tbl (s : State) (px : List Pixel) (g : Stage) : (s.withCanon px g).tbl = s.tbl := rfl
@[simp] theorem State.withCanon_stage (s : State) (px : List Pixel) (g : Stage) : (s.withCanon px g).stage = g := rfl
@[simp] theorem State.withCanon_cur (s : State) (px : List Pixel) (g : Stage) : (s.withCanon px g).cur = s.cur := rfl
@[simp] theorem State.withCanon_canon (s : State) (px : List Pixel) (g : Stage) : (s.withCanon px g).canon = px := rfl
@[simp] theorem State.withCanon_idxBuf (s : State) (px : List Pixel) (g : Stage) : (s.withCanon px g).idxBuf = s.idxBuf := rfl
@[simp] theorem State.withCanon_tables (s : State) (px : List Pixel) (g : Stage) : (s.withCanon px g).tables = s.tables := rfl
@[simp] theorem State.withCanon_tile (s : State) (px : List Pixel) (g : Stage) : (s.withCanon px g).tile = s.tile := rfl
@[simp] theorem State.withCanon_fault (s : State) (px : List Pixel) (g : Stage) : (s.withCanon px g).fault = s.fault := rfl
@[simp] theorem State.withCanon_written (s : State) (px : List Pixel) (g : Stage) : (s.withCanon px g).written = s.written := rfl
@[simp] theorem State.withCanon_jobs (s : State) (px : List Pixel) (g : Stage) : (s.withCanon px g).jobs = s.jobs := rfl

/-! ## withIdx -/

@[simp] theorem State.withIdx_cfg (s : State) (ix : List Byte) (g : Stage) : (s.withIdx ix g).cfg = s.cfg := rfl
@[simp] theorem State.withIdx_width (s : State) (ix : List Byte) (g : Stage) : (s.withIdx ix g).width = s.width := rfl
@[simp] theorem State.withIdx_height (s : State) (ix : List Byte) (g : Stage) : (s.withIdx ix g).height = s.height := rfl
@[simp] theorem State.withIdx_inFmt (s : State) (ix : List Byte) (g : Stage) : (s.withIdx ix g).inFmt = s.inFmt := rfl
@[simp] theorem State.withIdx_inEnd (s : State) (ix : List Byte) (g : Stage) : (s.withIdx ix g).inEnd = s.inEnd := rfl
@[simp] theorem State.withIdx_outFmt (s : State) (ix : List Byte) (g : Stage) : (s.withIdx ix g).outFmt = s.outFmt := rfl
@[simp] theorem State.withIdx_outEnd (s : State) (ix : List Byte) (g : Stage) : (s.withIdx ix g).outEnd = s.outEnd := rfl
@[simp] theorem State.withIdx_palFmt (s : State) (ix : List Byte) (g : Stage) : (s.withIdx ix g).palFmt = s.palFmt := rfl
@[simp] theorem State.withIdx_palEnd (s : State) (ix : List Byte) (g : Stage) : (s.withIdx ix g).palEnd = s.palEnd := rfl
@[simp] theorem State.withIdx_palCount (s : State) (ix : List Byte) (g : Stage) : (s.withIdx ix g).palCount = s.palCount := rfl
@[simp] theorem State.withIdx_inLen (s : State) (ix : List Byte) (g : Stage) : (s.withIdx ix g).inLen = s.inLen := rfl
@[simp] theorem State.withIdx_palLen (s : State) (ix : List Byte) (g : Stage) : (s.withIdx ix g).palLen = s.palLen := rfl
@[simp] theorem State.withIdx_status (s : State) (ix : List Byte) (g : Stage) : (s.withIdx ix g).status = s.status := rfl
@[simp] theorem State.withIdx_errCode (s : State) (ix : List Byte) (g : Stage) : (s.withIdx ix g).errCode = s.errCode := rfl
@[simp] theorem State.withIdx_errInfo (s : State) (ix : List Byte) (g : Stage) : (s.withIdx ix g).errInfo = s.errInfo := rfl
@[simp] theorem State.withIdx_outLen (s : State) (ix : List Byte) (g : Stage) : (s.withIdx ix g).outLen = s.outLen := rfl
@[simp] theorem State.withIdx_tblLen (s : State) (ix : List Byte) (g : Stage) : (s.withIdx ix g).tblLen = s.tblLen := rfl
@[simp] theorem State.withIdx_cmd (s : State) (ix : List Byte) (g : Stage) : (s.withIdx ix g).cmd = s.cmd := rfl
@[simp] theorem State.withIdx_inBuf (s : State) (ix : List Byte) (g : Stage) : (s.withIdx ix g).inBuf = s.inBuf := rfl
@[simp] theorem State.withIdx_pal (s : State) (ix : List Byte) (g : Stage) : (s.withIdx ix g).pal = s.pal := rfl
@[simp] theorem State.withIdx_out (s : State) (ix : List Byte) (g : Stage) : (s.withIdx ix g).out = s.out := rfl
@[simp] theorem State.withIdx_tbl (s : State) (ix : List Byte) (g : Stage) : (s.withIdx ix g).tbl = s.tbl := rfl
@[simp] theorem State.withIdx_stage (s : State) (ix : List Byte) (g : Stage) : (s.withIdx ix g).stage = g := rfl
@[simp] theorem State.withIdx_cur (s : State) (ix : List Byte) (g : Stage) : (s.withIdx ix g).cur = s.cur := rfl
@[simp] theorem State.withIdx_canon (s : State) (ix : List Byte) (g : Stage) : (s.withIdx ix g).canon = s.canon := rfl
@[simp] theorem State.withIdx_idxBuf (s : State) (ix : List Byte) (g : Stage) : (s.withIdx ix g).idxBuf = ix := rfl
@[simp] theorem State.withIdx_tables (s : State) (ix : List Byte) (g : Stage) : (s.withIdx ix g).tables = s.tables := rfl
@[simp] theorem State.withIdx_tile (s : State) (ix : List Byte) (g : Stage) : (s.withIdx ix g).tile = s.tile := rfl
@[simp] theorem State.withIdx_fault (s : State) (ix : List Byte) (g : Stage) : (s.withIdx ix g).fault = s.fault := rfl
@[simp] theorem State.withIdx_written (s : State) (ix : List Byte) (g : Stage) : (s.withIdx ix g).written = s.written := rfl
@[simp] theorem State.withIdx_jobs (s : State) (ix : List Byte) (g : Stage) : (s.withIdx ix g).jobs = s.jobs := rfl

/-! ## writeOut -/

@[simp] theorem State.writeOut_cfg (s : State) (bs : List Byte) : (s.writeOut bs).cfg = s.cfg := rfl
@[simp] theorem State.writeOut_width (s : State) (bs : List Byte) : (s.writeOut bs).width = s.width := rfl
@[simp] theorem State.writeOut_height (s : State) (bs : List Byte) : (s.writeOut bs).height = s.height := rfl
@[simp] theorem State.writeOut_inFmt (s : State) (bs : List Byte) : (s.writeOut bs).inFmt = s.inFmt := rfl
@[simp] theorem State.writeOut_inEnd (s : State) (bs : List Byte) : (s.writeOut bs).inEnd = s.inEnd := rfl
@[simp] theorem State.writeOut_outFmt (s : State) (bs : List Byte) : (s.writeOut bs).outFmt = s.outFmt := rfl
@[simp] theorem State.writeOut_outEnd (s : State) (bs : List Byte) : (s.writeOut bs).outEnd = s.outEnd := rfl
@[simp] theorem State.writeOut_palFmt (s : State) (bs : List Byte) : (s.writeOut bs).palFmt = s.palFmt := rfl
@[simp] theorem State.writeOut_palEnd (s : State) (bs : List Byte) : (s.writeOut bs).palEnd = s.palEnd := rfl
@[simp] theorem State.writeOut_palCount (s : State) (bs : List Byte) : (s.writeOut bs).palCount = s.palCount := rfl
@[simp] theorem State.writeOut_inLen (s : State) (bs : List Byte) : (s.writeOut bs).inLen = s.inLen := rfl
@[simp] theorem State.writeOut_palLen (s : State) (bs : List Byte) : (s.writeOut bs).palLen = s.palLen := rfl
@[simp] theorem State.writeOut_status (s : State) (bs : List Byte) : (s.writeOut bs).status = s.status := rfl
@[simp] theorem State.writeOut_errCode (s : State) (bs : List Byte) : (s.writeOut bs).errCode = s.errCode := rfl
@[simp] theorem State.writeOut_errInfo (s : State) (bs : List Byte) : (s.writeOut bs).errInfo = s.errInfo := rfl
@[simp] theorem State.writeOut_outLen (s : State) (bs : List Byte) : (s.writeOut bs).outLen = BitVec.ofNat 32 bs.length := rfl
@[simp] theorem State.writeOut_tblLen (s : State) (bs : List Byte) : (s.writeOut bs).tblLen = s.tblLen := rfl
@[simp] theorem State.writeOut_cmd (s : State) (bs : List Byte) : (s.writeOut bs).cmd = s.cmd := rfl
@[simp] theorem State.writeOut_inBuf (s : State) (bs : List Byte) : (s.writeOut bs).inBuf = s.inBuf := rfl
@[simp] theorem State.writeOut_pal (s : State) (bs : List Byte) : (s.writeOut bs).pal = s.pal := rfl
@[simp] theorem State.writeOut_out (s : State) (bs : List Byte) : (s.writeOut bs).out = s.out.writeBytes 0 bs := rfl
@[simp] theorem State.writeOut_tbl (s : State) (bs : List Byte) : (s.writeOut bs).tbl = s.tbl := rfl
@[simp] theorem State.writeOut_stage (s : State) (bs : List Byte) : (s.writeOut bs).stage = s.stage := rfl
@[simp] theorem State.writeOut_cur (s : State) (bs : List Byte) : (s.writeOut bs).cur = s.cur := rfl
@[simp] theorem State.writeOut_canon (s : State) (bs : List Byte) : (s.writeOut bs).canon = s.canon := rfl
@[simp] theorem State.writeOut_idxBuf (s : State) (bs : List Byte) : (s.writeOut bs).idxBuf = s.idxBuf := rfl
@[simp] theorem State.writeOut_tables (s : State) (bs : List Byte) : (s.writeOut bs).tables = s.tables := rfl
@[simp] theorem State.writeOut_tile (s : State) (bs : List Byte) : (s.writeOut bs).tile = s.tile := rfl
@[simp] theorem State.writeOut_fault (s : State) (bs : List Byte) : (s.writeOut bs).fault = s.fault := rfl
@[simp] theorem State.writeOut_written (s : State) (bs : List Byte) : (s.writeOut bs).written = s.written := rfl
@[simp] theorem State.writeOut_jobs (s : State) (bs : List Byte) : (s.writeOut bs).jobs = s.jobs := rfl

/-! ## writeTbl -/

@[simp] theorem State.writeTbl_cfg (s : State) (bs : List (List Byte)) : (s.writeTbl bs).cfg = s.cfg := rfl
@[simp] theorem State.writeTbl_width (s : State) (bs : List (List Byte)) : (s.writeTbl bs).width = s.width := rfl
@[simp] theorem State.writeTbl_height (s : State) (bs : List (List Byte)) : (s.writeTbl bs).height = s.height := rfl
@[simp] theorem State.writeTbl_inFmt (s : State) (bs : List (List Byte)) : (s.writeTbl bs).inFmt = s.inFmt := rfl
@[simp] theorem State.writeTbl_inEnd (s : State) (bs : List (List Byte)) : (s.writeTbl bs).inEnd = s.inEnd := rfl
@[simp] theorem State.writeTbl_outFmt (s : State) (bs : List (List Byte)) : (s.writeTbl bs).outFmt = s.outFmt := rfl
@[simp] theorem State.writeTbl_outEnd (s : State) (bs : List (List Byte)) : (s.writeTbl bs).outEnd = s.outEnd := rfl
@[simp] theorem State.writeTbl_palFmt (s : State) (bs : List (List Byte)) : (s.writeTbl bs).palFmt = s.palFmt := rfl
@[simp] theorem State.writeTbl_palEnd (s : State) (bs : List (List Byte)) : (s.writeTbl bs).palEnd = s.palEnd := rfl
@[simp] theorem State.writeTbl_palCount (s : State) (bs : List (List Byte)) : (s.writeTbl bs).palCount = s.palCount := rfl
@[simp] theorem State.writeTbl_inLen (s : State) (bs : List (List Byte)) : (s.writeTbl bs).inLen = s.inLen := rfl
@[simp] theorem State.writeTbl_palLen (s : State) (bs : List (List Byte)) : (s.writeTbl bs).palLen = s.palLen := rfl
@[simp] theorem State.writeTbl_status (s : State) (bs : List (List Byte)) : (s.writeTbl bs).status = s.status := rfl
@[simp] theorem State.writeTbl_errCode (s : State) (bs : List (List Byte)) : (s.writeTbl bs).errCode = s.errCode := rfl
@[simp] theorem State.writeTbl_errInfo (s : State) (bs : List (List Byte)) : (s.writeTbl bs).errInfo = s.errInfo := rfl
@[simp] theorem State.writeTbl_outLen (s : State) (bs : List (List Byte)) : (s.writeTbl bs).outLen = s.outLen := rfl
@[simp] theorem State.writeTbl_tblLen (s : State) (bs : List (List Byte)) : (s.writeTbl bs).tblLen = tableLens s.tblLen.length bs := rfl
@[simp] theorem State.writeTbl_cmd (s : State) (bs : List (List Byte)) : (s.writeTbl bs).cmd = s.cmd := rfl
@[simp] theorem State.writeTbl_inBuf (s : State) (bs : List (List Byte)) : (s.writeTbl bs).inBuf = s.inBuf := rfl
@[simp] theorem State.writeTbl_pal (s : State) (bs : List (List Byte)) : (s.writeTbl bs).pal = s.pal := rfl
@[simp] theorem State.writeTbl_out (s : State) (bs : List (List Byte)) : (s.writeTbl bs).out = s.out := rfl
@[simp] theorem State.writeTbl_tbl (s : State) (bs : List (List Byte)) : (s.writeTbl bs).tbl = writeTables s.tbl bs := rfl
@[simp] theorem State.writeTbl_stage (s : State) (bs : List (List Byte)) : (s.writeTbl bs).stage = s.stage := rfl
@[simp] theorem State.writeTbl_cur (s : State) (bs : List (List Byte)) : (s.writeTbl bs).cur = s.cur := rfl
@[simp] theorem State.writeTbl_canon (s : State) (bs : List (List Byte)) : (s.writeTbl bs).canon = s.canon := rfl
@[simp] theorem State.writeTbl_idxBuf (s : State) (bs : List (List Byte)) : (s.writeTbl bs).idxBuf = s.idxBuf := rfl
@[simp] theorem State.writeTbl_tables (s : State) (bs : List (List Byte)) : (s.writeTbl bs).tables = s.tables := rfl
@[simp] theorem State.writeTbl_tile (s : State) (bs : List (List Byte)) : (s.writeTbl bs).tile = s.tile := rfl
@[simp] theorem State.writeTbl_fault (s : State) (bs : List (List Byte)) : (s.writeTbl bs).fault = s.fault := rfl
@[simp] theorem State.writeTbl_written (s : State) (bs : List (List Byte)) : (s.writeTbl bs).written = s.written := rfl
@[simp] theorem State.writeTbl_jobs (s : State) (bs : List (List Byte)) : (s.writeTbl bs).jobs = s.jobs := rfl

/-! ## finishEmpty -/

@[simp] theorem State.finishEmpty_cfg (s : State) : s.finishEmpty.cfg = s.cfg := rfl
@[simp] theorem State.finishEmpty_width (s : State) : s.finishEmpty.width = s.width := rfl
@[simp] theorem State.finishEmpty_height (s : State) : s.finishEmpty.height = s.height := rfl
@[simp] theorem State.finishEmpty_inFmt (s : State) : s.finishEmpty.inFmt = s.inFmt := rfl
@[simp] theorem State.finishEmpty_inEnd (s : State) : s.finishEmpty.inEnd = s.inEnd := rfl
@[simp] theorem State.finishEmpty_outFmt (s : State) : s.finishEmpty.outFmt = s.outFmt := rfl
@[simp] theorem State.finishEmpty_outEnd (s : State) : s.finishEmpty.outEnd = s.outEnd := rfl
@[simp] theorem State.finishEmpty_palFmt (s : State) : s.finishEmpty.palFmt = s.palFmt := rfl
@[simp] theorem State.finishEmpty_palEnd (s : State) : s.finishEmpty.palEnd = s.palEnd := rfl
@[simp] theorem State.finishEmpty_palCount (s : State) : s.finishEmpty.palCount = s.palCount := rfl
@[simp] theorem State.finishEmpty_inLen (s : State) : s.finishEmpty.inLen = s.inLen := rfl
@[simp] theorem State.finishEmpty_palLen (s : State) : s.finishEmpty.palLen = s.palLen := rfl
@[simp] theorem State.finishEmpty_status (s : State) : s.finishEmpty.status = .done := rfl
@[simp] theorem State.finishEmpty_errCode (s : State) : s.finishEmpty.errCode = .none := rfl
@[simp] theorem State.finishEmpty_errInfo (s : State) : s.finishEmpty.errInfo = 0 := rfl
@[simp] theorem State.finishEmpty_outLen (s : State) : s.finishEmpty.outLen = 0 := rfl
@[simp] theorem State.finishEmpty_tblLen (s : State) : s.finishEmpty.tblLen = List.replicate s.tblLen.length 0 := rfl
@[simp] theorem State.finishEmpty_cmd (s : State) : s.finishEmpty.cmd = s.cmd := rfl
@[simp] theorem State.finishEmpty_inBuf (s : State) : s.finishEmpty.inBuf = s.inBuf := rfl
@[simp] theorem State.finishEmpty_pal (s : State) : s.finishEmpty.pal = s.pal := rfl
@[simp] theorem State.finishEmpty_out (s : State) : s.finishEmpty.out = s.out := rfl
@[simp] theorem State.finishEmpty_tbl (s : State) : s.finishEmpty.tbl = s.tbl := rfl
@[simp] theorem State.finishEmpty_stage (s : State) : s.finishEmpty.stage = .done := rfl
@[simp] theorem State.finishEmpty_cur (s : State) : s.finishEmpty.cur = 0 := rfl
@[simp] theorem State.finishEmpty_canon (s : State) : s.finishEmpty.canon = [] := rfl
@[simp] theorem State.finishEmpty_idxBuf (s : State) : s.finishEmpty.idxBuf = [] := rfl
@[simp] theorem State.finishEmpty_tables (s : State) : s.finishEmpty.tables = [] := rfl
@[simp] theorem State.finishEmpty_tile (s : State) : s.finishEmpty.tile = [] := rfl
@[simp] theorem State.finishEmpty_fault (s : State) : s.finishEmpty.fault = none := rfl
@[simp] theorem State.finishEmpty_written (s : State) : s.finishEmpty.written = s.written := rfl
@[simp] theorem State.finishEmpty_jobs (s : State) : s.finishEmpty.jobs = s.jobs + 1 := rfl

end Sys2Proof.Machine
end

