-- ==== Sys2Proof/Laws/Stages.lean ====
section
/-! SUPPORT. What each shared stage operation can do, said once: it takes an error, with nothing else changed, or it
has its effect, under the conditions given. Cite these instead of unfolding the operations. -/

namespace Sys2Proof.Machine

/-- The answer is a state that has taken an error, with an error code. -/
def Raises (s : State) (r : Result) : Prop := ∃ e v, e ≠ ErrCode.none ∧ r = .next (s.raise e v)

theorem raising_eq (e : Err) (s : State) : raising e s = .next (s.raise e.1 e.2) := rfl

theorem raises_of_code {s : State} {e : Err} (h : e.1 ≠ .none) : Raises s (raising e s) := ⟨e.1, e.2, h, rfl⟩

theorem raises_validation (s : State) (sub which : Nat) : Raises s (raising (validationErr sub which) s) :=
  raises_of_code (by simp [validationErr])

theorem raises_unsupported (s : State) (sub : Nat) : Raises s (raising (unsupportedErr sub) s) :=
  raises_of_code (by simp [unsupportedErr])

/-! ## The checks name an error -/

theorem checkGeometry_code {s : State} {e : Err} (h : checkGeometry s = some e) : e.1 = .validation := by
  unfold checkGeometry at h; split at h <;> cases h; rfl

theorem checkWord_code {d : DescWord} {n : Nat} {e : Err} (h : checkWord d n = some e) : e.1 = .validation := by
  simp only [checkWord, Option.map_eq_some_iff] at h
  obtain ⟨_, -, rfl⟩ := h; rfl

theorem checkEndian_code {c : Code2} {n : Nat} {e : Err} (h : checkEndian c n = some e) : e.1 = .validation := by
  unfold checkEndian at h; split at h <;> cases h; rfl

theorem checkPalette_code {s : State} {e : Err} (h : checkPalette s = some e) : e.1 = .validation := by
  simp only [checkPalette, Option.or_eq_some_iff] at h
  rcases h with (h | ⟨-, h⟩) | ⟨-, h⟩
  · exact checkWord_code h
  · exact checkEndian_code h
  · split at h <;> cases h; rfl

theorem checkSupported_code {s : State} {e : Err} (h : checkSupported s = some e) : e.1 = .unsupported := by
  simp only [checkSupported, Option.map_eq_some_iff] at h
  obtain ⟨_, -, rfl⟩ := h; rfl

theorem checkBytes_some {s : State} {n : Nat} {e : Err} (h : checkBytes s n = some e) :
    e = (.truncated, truncatedInfo n) ∧ s.inLen.toNat < n := by
  unfold checkBytes at h
  split at h
  · cases h; exact ⟨rfl, ‹_›⟩
  · cases h

theorem checkBytes_none {s : State} {n : Nat} (h : checkBytes s n = none) : n ≤ s.inLen.toNat := by
  unfold checkBytes at h
  split at h
  · cases h
  · omega

theorem checkLength_code {s : State} {e : Err} (h : checkLength s = some e) : e.1 = .truncated := by
  unfold checkLength at h
  split at h
  · cases h
  · rw [(checkBytes_some h).1]

theorem firstError_code {s : State} {e : Err} (h : firstError s = some e) : e.1 ≠ .none := by
  simp only [firstError, Option.or_eq_some_iff] at h
  rcases h with ((((((h | ⟨-, h⟩) | ⟨-, h⟩) | ⟨-, h⟩) | ⟨-, h⟩) | ⟨-, h⟩) | ⟨-, h⟩) | ⟨-, h⟩
  · simp [checkGeometry_code h]
  · simp [checkWord_code h]
  · simp [checkWord_code h]
  · simp [checkEndian_code h]
  · simp [checkEndian_code h]
  · split at h
    · simp [checkPalette_code h]
    · cases h
  · simp [checkSupported_code h]
  · simp [checkLength_code h]

/-! ## The operations -/

theorem execValidate_cases (s : State) :
    (firstError s ≠ none ∧ Raises s (execValidate s)) ∨
    (firstError s = none ∧ s.area = 0 ∧ execValidate s = .next s.finishEmpty) ∨
    (firstError s = none ∧ s.area ≠ 0 ∧ execValidate s = .next (s.toStage .decode)) := by
  unfold execValidate
  split
  · rename_i e h; exact .inl ⟨by simp [h], raises_of_code (firstError_code h)⟩
  · rename_i h
    split
    · exact .inr (.inl ⟨h, ‹_›, rfl⟩)
    · exact .inr (.inr ⟨h, ‹_›, rfl⟩)

theorem chdecStage_cases (lay : Layout) (f : PlainFmt) (s : State) :
    Raises s (chdecStage lay f s) ∨
    (checkPlain lay f = none ∧ ∃ e, endianOf s.inEnd = some e ∧ sampleBytes s.area f.bpp.bits ≤ s.inLen.toNat ∧
      chdecStage lay f s =
        .next (s.decoded (chdec s.cfg s.inBuf lay f e s.area) (sampleBytes s.area f.bpp.bits) s.tile)) := by
  unfold chdecStage
  split
  · exact .inl (raises_validation s _ 1)
  · exact .inl (raises_validation s 6 1)
  · rename_i e h1 h2
    split
    · rename_i err h; exact .inl (raises_of_code (by simp [(checkBytes_some h).1]))
    · rename_i h; exact .inr ⟨h1, e, h2, checkBytes_none h, rfl⟩

theorem chencStage_cases (lay : Layout) (f : PlainFmt) (s : State) :
    Raises s (chencStage lay f s) ∨
    (checkPlain lay f = none ∧ ∃ e, endianOf s.outEnd = some e ∧
      chencStage lay f s = .next ((s.writeOut (chenc s.cfg s.canon lay f e s.area)).writeTbl []).finish) := by
  unfold chencStage
  split
  · exact .inl (raises_validation s _ 2)
  · exact .inl (raises_validation s 6 2)
  · rename_i e h1 h2; exact .inr ⟨h1, e, h2, rfl⟩

theorem paletteErr_code {s : State} {n : Nat} {ix : List Byte} {e : Err} (h : s.paletteErr n ix = some e) :
    e.1 = .paletteRange := by
  unfold State.paletteErr at h
  split at h
  · cases h
  · simp only [Option.map_eq_some_iff] at h
    obtain ⟨_, -, rfl⟩ := h; rfl

theorem execIdx_cases (bpp : Bpp) (s : State) :
    Raises s (execIdx bpp s) ∨
    (indexSub bpp = none ∧ checkPalette s = none ∧ ∃ e lay pe, endianOf s.inEnd = some e ∧
      s.palLayout = some (lay, pe) ∧ sampleBytes s.area bpp.bits ≤ s.inLen.toNat ∧
      s.paletteErr bpp.bits (idxSamples s.cfg s.inBuf s.area bpp.bits e) = none ∧
      execIdx bpp s =
        .next (s.decodedIdx (idxSamples s.cfg s.inBuf s.area bpp.bits e) (s.palTables lay pe bpp.bits)
          (sampleBytes s.area bpp.bits))) := by
  unfold execIdx
  split
  · exact .inl (raises_validation s _ 1)
  · exact .inl (raises_validation s 6 1)
  · rename_i h; exact .inl (raises_of_code (by simp [checkPalette_code h]))
  · exact .inl (raises_validation s 8 3)
  · rename_i e lay pe h1 h2 h3 h4
    split
    · rename_i err h; exact .inl (raises_of_code (by simp [(checkBytes_some h).1]))
    · rename_i h
      dsimp only
      split
      · rename_i err he; exact .inl (raises_of_code (by simp [paletteErr_code he]))
      · rename_i he; exact .inr ⟨h1, h3, e, lay, pe, h2, h4, checkBytes_none h, he, rfl⟩

theorem packIndexed_cases (s : State) :
    Raises s (packIndexed s) ∨
    (∃ e, endianOf s.outEnd = some e ∧
      packIndexed s =
        .next (((s.writeOut ((List.range s.area).map fun i => s.idxBuf.getD i 0)).writeTbl
          (s.tables.map (tableBytes s.cfg e))).finish)) := by
  unfold packIndexed
  split
  · exact .inl (raises_validation s 6 2)
  · rename_i e h; exact .inr ⟨e, h, rfl⟩

theorem blockStage_cases (k : Special) (codec : Nat → List Pixel) (ro : Reorder) (s : State) :
    Raises s (blockStage k codec ro s) ∨
    (specialSub s.cfg k ro s.w s.h = none ∧ specialBytes k s.w s.h ≤ s.inLen.toNat ∧
      blockStage k codec ro s =
        .next (s.decoded
          (decodeBlocks s.cfg codec (tileW k) (blockBytes k) s.w s.h (blocksX k s.w) (blocksY k s.h) ro s.inBuf)
          (specialBytes k s.w s.h) (lastTile codec (blockBytes k) (blocksX k s.w * blocksY k s.h) s.inBuf s.tile))) := by
  unfold blockStage
  split
  · exact .inl (raises_unsupported s _)
  · rename_i err h1 h2; exact .inl (raises_of_code (by simp [(checkBytes_some h2).1]))
  · rename_i h1 h2; exact .inr ⟨h1, checkBytes_none h2, rfl⟩

theorem pvrtStage_cases (k : Special) (pixel : WordGrid → Nat → Nat → Pixel) (ro : Reorder) (s : State) :
    Raises s (pvrtStage k pixel ro s) ∨
    (specialSub s.cfg k ro s.w s.h = none ∧ specialBytes k s.w s.h ≤ s.inLen.toNat ∧
      pvrtStage k pixel ro s =
        .next (s.withCanon (pictureOf (pixel (readGrid s.inBuf (blocksX k s.w) (blocksY k s.h))) s.w s.h)
          .reorder)) := by
  unfold pvrtStage
  split
  · exact .inl (raises_unsupported s _)
  · rename_i err h1 h2; exact .inl (raises_of_code (by simp [(checkBytes_some h2).1]))
  · rename_i h1 h2; exact .inr ⟨h1, checkBytes_none h2, rfl⟩

theorem reordStage_cases (k : Reorder) (s : State) :
    Raises s (reordStage k s) ∨
    (descSpecial s.inFmt ≠ 0 ∧ reordStage k s = .next (s.toStage .filter)) ∨
    (descSpecial s.inFmt = 0 ∧ reordSub s.cfg k s.w s.h s.inBpp.bits = none ∧ s.isIndexed = true ∧
      reordStage k s = .next (s.withIdx (reorderList s.cfg k s.idxBuf s.w s.h s.inBpp.bits 0) .filter)) ∨
    (descSpecial s.inFmt = 0 ∧ reordSub s.cfg k s.w s.h s.inBpp.bits = none ∧ s.isIndexed = false ∧
      reordStage k s = .next (s.withCanon (reorderList s.cfg k s.canon s.w s.h s.inBpp.bits fillPixel) .filter)) := by
  unfold reordStage
  split
  · exact .inr (.inl ⟨‹_›, rfl⟩)
  · rename_i h0
    split
    · exact .inl (raises_unsupported s _)
    · rename_i h1
      split
      · exact .inr (.inr (.inl ⟨by simpa using h0, h1, ‹_›, rfl⟩))
      · exact .inr (.inr (.inr ⟨by simpa using h0, h1, by simpa using ‹¬s.isIndexed = true›, rfl⟩))

/-! ## Every instruction -/

/-- What an instruction does to a state: an error taken, a move to a later stage with a new `CANON`, `IDXBUF` or
cursor, the end of the job, or a command's effect. -/
inductive Moves (s : State) : Result → Prop where
  | same : Moves s (.next s)
  | begins : s.status = .idle → Moves s (.next s.beginJob)
  | cleared : s.status = .done ∨ s.status = .error → Moves s (.next s.clearStatus)
  | raises (e : ErrCode) (v : Word32) : e ≠ .none → Moves s (.next (s.raise e v))
  | emptyJob : Moves s (.next s.finishEmpty)
  | stage (g : Stage) : g = .decode ∨ g = .filter ∨ g = .pack → Moves s (.next (s.toStage g))
  | decoded (px : List Pixel) (n : Nat) (tl : List Pixel) : Moves s (.next (s.decoded px n tl))
  | decodedIdx (ix : List Byte) (tb : List (List Pixel)) (n : Nat) : Moves s (.next (s.decodedIdx ix tb n))
  | canon (px : List Pixel) (g : Stage) : g = .reorder ∨ g = .filter ∨ g = .pack → Moves s (.next (s.withCanon px g))
  | idx (ix : List Byte) : Moves s (.next (s.withIdx ix .filter))
  | packs (bs : List Byte) (tb : List (List Byte)) : Moves s (.next ((s.writeOut bs).writeTbl tb).finish)

theorem Raises.moves {s : State} {r : Result} (h : Raises s r) : Moves s r := by
  obtain ⟨e, v, he, rfl⟩ := h; exact .raises e v he

theorem chdecStage_moves (lay : Layout) (f : PlainFmt) (s : State) : Moves s (chdecStage lay f s) := by
  rcases chdecStage_cases lay f s with h | ⟨-, e, -, -, h⟩
  · exact h.moves
  · rw [h]; exact .decoded _ _ _

theorem chencStage_moves (lay : Layout) (f : PlainFmt) (s : State) : Moves s (chencStage lay f s) := by
  rcases chencStage_cases lay f s with h | ⟨-, e, -, h⟩
  · exact h.moves
  · rw [h]; exact .packs _ _

theorem blockStage_moves (k : Special) (codec : Nat → List Pixel) (ro : Reorder) (s : State) :
    Moves s (blockStage k codec ro s) := by
  rcases blockStage_cases k codec ro s with h | ⟨-, -, h⟩
  · exact h.moves
  · rw [h]; exact .decoded _ _ _

theorem pvrtStage_moves (k : Special) (pixel : WordGrid → Nat → Nat → Pixel) (ro : Reorder) (s : State) :
    Moves s (pvrtStage k pixel ro s) := by
  rcases pvrtStage_cases k pixel ro s with h | ⟨-, -, h⟩
  · exact h.moves
  · rw [h]; exact .canon _ _ (.inl rfl)

theorem reordStage_moves (k : Reorder) (s : State) : Moves s (reordStage k s) := by
  rcases reordStage_cases k s with h | ⟨-, h⟩ | ⟨-, -, -, h⟩ | ⟨-, -, -, h⟩
  · exact h.moves
  · rw [h]; exact .stage _ (.inr (.inl rfl))
  · rw [h]; exact .idx _
  · rw [h]; exact .canon _ _ (.inr (.inl rfl))

theorem execIdx_moves (bpp : Bpp) (s : State) : Moves s (execIdx bpp s) := by
  rcases execIdx_cases bpp s with h | ⟨-, -, e, lay, pe, -, -, -, -, h⟩
  · exact h.moves
  · rw [h]; exact .decodedIdx _ _ _

theorem packIndexed_moves (s : State) : Moves s (packIndexed s) := by
  rcases packIndexed_cases s with h | ⟨e, -, h⟩
  · exact h.moves
  · rw [h]; exact .packs _ _

theorem execValidate_moves (s : State) : Moves s (execValidate s) := by
  rcases execValidate_cases s with ⟨-, h⟩ | ⟨-, -, h⟩ | ⟨-, -, h⟩
  · exact h.moves
  · rw [h]; exact .emptyJob
  · rw [h]; exact .stage _ (.inl rfl)

theorem execStart_moves (s : State) : Moves s (execStart s) := by
  unfold execStart; split
  · exact .begins ‹_›
  · exact .same

theorem execClear_moves (s : State) : Moves s (execClear s) := by
  unfold execClear; split
  · exact .cleared ‹_›
  · exact .same

theorem execFiltDither_moves (s : State) : Moves s (execFiltDither s) := by
  unfold execFiltDither; split
  · exact .stage _ (.inr (.inr rfl))
  · exact .canon _ _ (.inr (.inr rfl))

/-- Everything an instruction can do. -/
theorem exec_moves (i : Instr) (s : State) : Moves s (exec i s) := by
  cases i with
  | start => exact execStart_moves s
  | clear => exact execClear_moves s
  | validate => exact execValidate_moves s
  | chdecRgb f => exact chdecStage_moves _ _ s
  | chdecRgba f => exact chdecStage_moves _ _ s
  | chdecBgra f => exact chdecStage_moves _ _ s
  | chdecArgb f => exact chdecStage_moves _ _ s
  | chdecAbgr f => exact chdecStage_moves _ _ s
  | chdecRgbx f => exact chdecStage_moves _ _ s
  | chdecBgrx f => exact chdecStage_moves _ _ s
  | chdecXrgb f => exact chdecStage_moves _ _ s
  | chdecXbgr f => exact chdecStage_moves _ _ s
  | chdecL f => exact chdecStage_moves _ _ s
  | chdecA f => exact chdecStage_moves _ _ s
  | chdecLa f => exact chdecStage_moves _ _ s
  | chdecAl f => exact chdecStage_moves _ _ s
  | idx bpp => exact execIdx_moves _ s
  | chencRgb f => exact chencStage_moves _ _ s
  | chencRgba f => exact chencStage_moves _ _ s
  | chencBgra f => exact chencStage_moves _ _ s
  | chencArgb f => exact chencStage_moves _ _ s
  | chencAbgr f => exact chencStage_moves _ _ s
  | chencRgbx f => exact chencStage_moves _ _ s
  | chencBgrx f => exact chencStage_moves _ _ s
  | chencXrgb f => exact chencStage_moves _ _ s
  | chencXbgr f => exact chencStage_moves _ _ s
  | chencL f => exact chencStage_moves _ _ s
  | chencA f => exact chencStage_moves _ _ s
  | chencLa f => exact chencStage_moves _ _ s
  | chencAl f => exact chencStage_moves _ _ s
  | blkEtc1 ro => exact blockStage_moves _ _ _ s
  | blkEtc1a4 ro => exact blockStage_moves _ _ _ s
  | blkDxt1 ro => exact blockStage_moves _ _ _ s
  | blkDxt1alt ro => exact blockStage_moves _ _ _ s
  | blkDxt1psp ro => exact blockStage_moves _ _ _ s
  | blkDxt3 ro => exact blockStage_moves _ _ _ s
  | blkDxt3psp ro => exact blockStage_moves _ _ _ s
  | blkDxt5 ro => exact blockStage_moves _ _ _ s
  | blkDxt5psp ro => exact blockStage_moves _ _ _ s
  | blkRgtc1 ro => exact blockStage_moves _ _ _ s
  | blkRgtc1s ro => exact blockStage_moves _ _ _ s
  | blkRgtc2 ro => exact blockStage_moves _ _ _ s
  | blkRgtc2s ro => exact blockStage_moves _ _ _ s
  | blkBptc ro => exact blockStage_moves _ _ _ s
  | blkBptcf ro => exact blockStage_moves _ _ _ s
  | blkBptcsf ro => exact blockStage_moves _ _ _ s
  | blkPvrt2 ro => exact pvrtStage_moves _ _ _ s
  | blkPvrt4 ro => exact pvrtStage_moves _ _ _ s
  | reordLinear => exact .stage _ (.inr (.inl rfl))
  | reordTile3ds => exact reordStage_moves .tile3ds s
  | reordMorton => exact reordStage_moves .morton s
  | reordPsp => exact reordStage_moves .psp s
  | reordSwitch => exact reordStage_moves .switch s
  | filtNone => exact .stage _ (.inr (.inr rfl))
  | filtDither => exact execFiltDither_moves s

/-! ## Steps -/

theorem andThen_next {r : Result} {f : State → Result} {t : State} (h : andThen r f = .next t) :
    ∃ u, r = .next u ∧ f u = .next t := by
  cases r with
  | next u => exact ⟨u, rfl, h⟩
  | fault e => cases h
  | refused e => cases h

/-- Everything one stage can do. -/
theorem stageStep_cases (s : State) :
    (∃ i, fetchStage s = .stageOp i ∧ stageStep s = exec i s) ∨
    (fetchStage s = .packIndexed ∧ stageStep s = packIndexed s) ∨
    (∃ e, fetchStage s = .bad e ∧ stageStep s = .refused (.reservedEncoding e)) ∨
    stageStep s = .fault .noStage := by
  unfold stageStep
  split
  · exact .inl ⟨_, ‹_›, rfl⟩
  · exact .inr (.inl ⟨‹_›, rfl⟩)
  · exact .inr (.inr (.inl ⟨_, ‹_›, rfl⟩))
  all_goals exact .inr (.inr (.inr rfl))

/-- A stage that goes on moves as an instruction does. -/
theorem stageStep_moves {s t : State} (h : stageStep s = .next t) : Moves s (stageStep s) := by
  rcases stageStep_cases s with ⟨i, -, e⟩ | ⟨-, e⟩ | ⟨_, -, e⟩ | e
  · rw [e]; exact exec_moves i s
  · rw [e]; exact packIndexed_moves s
  · rw [e] at h; cases h
  · rw [e] at h; cases h

/-- A property that a stage keeps in a job is kept by the rest of the job. -/
theorem runStages_induct {P : State → Prop} (keep : ∀ s t, s.status = .busy → P s → stageStep s = .next t → P t) :
    ∀ (n : Nat) (s t : State), P s → runStages n s = .next t → P t
  | 0, s, t, hp, h => by
    simp only [runStages, Host.Outcome.next.injEq] at h
    exact h ▸ hp
  | n + 1, s, t, hp, h => by
    simp only [runStages] at h
    split at h
    · obtain ⟨u, h1, h2⟩ := andThen_next h
      exact runStages_induct keep n u t (keep s u ‹_› hp h1) h2
    · simp only [Host.Outcome.next.injEq] at h
      exact h ▸ hp

/-- Everything a step can do: a stage in a job; between jobs a command and the stages of the job it starts, a command
ignored, or nothing. -/
theorem step_cases (s : State) :
    (s.status = .busy ∧ step s = stageStep s) ∨
    (s.status ≠ .busy ∧ s.cmd = none ∧ step s = .next s) ∨
    (s.status ≠ .busy ∧ ∃ c, s.cmd = some c ∧
      ((∃ i, decode .cmd (c.setWidth 64) = .ok i ∧ step s = runCommand i s.takeCmd) ∨
       (∃ e, decode .cmd (c.setWidth 64) = .error e ∧ step s = .next s.takeCmd))) := by
  by_cases hb : s.status = .busy
  · refine .inl ⟨hb, ?_⟩
    simp only [step, fetch, hb, if_true]
    cases hf : fetchStage s <;> simp only [stageStep, hf]
    all_goals
      exfalso
      revert hf
      unfold fetchStage fetchWord
      repeat' split
      all_goals simp
  · cases hc : s.cmd with
    | none => exact .inr (.inl ⟨hb, rfl, by simp only [step, fetch, hb, if_false, hc]⟩)
    | some c =>
      refine .inr (.inr ⟨hb, c, rfl, ?_⟩)
      cases hd : decode .cmd (c.setWidth 64) with
      | ok i => exact .inl ⟨i, rfl, by simp only [step, fetch, hb, if_false, hc, fetchCommand, hd]⟩
      | error e => exact .inr ⟨e, rfl, by simp only [step, fetch, hb, if_false, hc, fetchCommand, hd]⟩

end Sys2Proof.Machine
end

