-- ==== Sys2Proof/Tests/Slice0.lean ====
section
/-! SUPPORT. Tests: ill-formed terms, the words of the encodings, one-step tests from the spec's worked examples, and for
every statement with hypotheses a state that meets them. -/

namespace Sys2Proof.Tests

set_option Elab.async false

open Sys2Proof Sys2Proof.Machine

/-! ## Well-formedness refuses -/

theorem test_wf_refuses_reserved_bpp : (Instr.chdecRgb ⟨.rsv7, 5, 6, 5, 0, .max⟩).wf = false := by decide
theorem test_wf_refuses_wide_field : (Instr.chdecRgb ⟨.b64, 17, 6, 5, 0, .max⟩).wf = false := by decide
theorem test_wf_refuses_wide_unused_field : (Instr.chencRgb ⟨.b16, 5, 6, 5, 17, .max⟩).wf = false := by decide
theorem test_wf_refuses_zero_channel : (Instr.chdecRgb ⟨.b8, 3, 3, 0, 0, .max⟩).wf = false := by decide
theorem test_wf_accepts_zero_padding : (Instr.chdecXrgb ⟨.b32, 8, 8, 8, 0, .max⟩).wf = true := by decide
theorem test_wf_refuses_sum_17 : (Instr.chdecRgba ⟨.b16, 5, 5, 5, 2, .zero⟩).wf = false := by decide
theorem test_wf_refuses_wide_index : (Instr.idx .b16).wf = false := by decide
theorem test_wf_refuses_tiled_blocks : (Instr.blkDxt1 .tile3ds).wf = false := by decide
theorem test_wf_refuses_swizzled_pvrt : (Instr.blkPvrt4 .morton).wf = false := by decide

/-! ## The words of the encodings (30_encoding.md rules R76 to R83, R89; fields placed by hand) -/

theorem test_decode_commands :
    decode .cmd 1 = .ok .start ∧ decode .cmd 2 = .ok .clear ∧ decode .cmd 0 = .error .ignoredCommand ∧
      decode .cmd 3 = .error .ignoredCommand ∧ decode .validate 0 = .ok .validate := by decide
theorem test_decode_chdec_a :
    decode .inOp 0x00000080041CC50D = .ok (.chdecRgb ⟨.b32, 5, 6, 7, 8, .max⟩) ∧
    decode .inOp 0x00000080041CC515 = .ok (.chdecRgba ⟨.b32, 5, 6, 7, 8, .max⟩) ∧
    decode .inOp 0x00000080041CC51D = .ok (.chdecBgra ⟨.b32, 5, 6, 7, 8, .max⟩) ∧
    decode .inOp 0x00000080041CC525 = .ok (.chdecArgb ⟨.b32, 5, 6, 7, 8, .max⟩) ∧
    decode .inOp 0x00000080041CC52D = .ok (.chdecAbgr ⟨.b32, 5, 6, 7, 8, .max⟩) ∧
    decode .inOp 0x00000080041CC535 = .ok (.chdecRgbx ⟨.b32, 5, 6, 7, 8, .max⟩) ∧
    decode .inOp 0x00000080041CC53D = .ok (.chdecBgrx ⟨.b32, 5, 6, 7, 8, .max⟩) := by decide
theorem test_decode_chdec_b :
    decode .inOp 0x00000080041CC545 = .ok (.chdecXrgb ⟨.b32, 5, 6, 7, 8, .max⟩) ∧
    decode .inOp 0x00000080041CC54D = .ok (.chdecXbgr ⟨.b32, 5, 6, 7, 8, .max⟩) ∧
    decode .inOp 0x00000080041CC555 = .ok (.chdecL ⟨.b32, 5, 6, 7, 8, .max⟩) ∧
    decode .inOp 0x00000080041CC55D = .ok (.chdecA ⟨.b32, 5, 6, 7, 8, .max⟩) ∧
    decode .inOp 0x00000080041CC565 = .ok (.chdecLa ⟨.b32, 5, 6, 7, 8, .max⟩) ∧
    decode .inOp 0x00000080041CC56D = .ok (.chdecAl ⟨.b32, 5, 6, 7, 8, .max⟩) := by decide
theorem test_decode_chenc_a :
    decode .outPack 0x00000080041CC50D = .ok (.chencRgb ⟨.b32, 5, 6, 7, 8, .max⟩) ∧
    decode .outPack 0x00000080041CC515 = .ok (.chencRgba ⟨.b32, 5, 6, 7, 8, .max⟩) ∧
    decode .outPack 0x00000080041CC51D = .ok (.chencBgra ⟨.b32, 5, 6, 7, 8, .max⟩) ∧
    decode .outPack 0x00000080041CC525 = .ok (.chencArgb ⟨.b32, 5, 6, 7, 8, .max⟩) ∧
    decode .outPack 0x00000080041CC52D = .ok (.chencAbgr ⟨.b32, 5, 6, 7, 8, .max⟩) ∧
    decode .outPack 0x00000080041CC535 = .ok (.chencRgbx ⟨.b32, 5, 6, 7, 8, .max⟩) ∧
    decode .outPack 0x00000080041CC53D = .ok (.chencBgrx ⟨.b32, 5, 6, 7, 8, .max⟩) := by decide
theorem test_decode_chenc_b :
    decode .outPack 0x00000080041CC545 = .ok (.chencXrgb ⟨.b32, 5, 6, 7, 8, .max⟩) ∧
    decode .outPack 0x00000080041CC54D = .ok (.chencXbgr ⟨.b32, 5, 6, 7, 8, .max⟩) ∧
    decode .outPack 0x00000080041CC555 = .ok (.chencL ⟨.b32, 5, 6, 7, 8, .max⟩) ∧
    decode .outPack 0x00000080041CC55D = .ok (.chencA ⟨.b32, 5, 6, 7, 8, .max⟩) ∧
    decode .outPack 0x00000080041CC565 = .ok (.chencLa ⟨.b32, 5, 6, 7, 8, .max⟩) ∧
    decode .outPack 0x00000080041CC56D = .ok (.chencAl ⟨.b32, 5, 6, 7, 8, .max⟩) := by decide
theorem test_decode_blk_a :
    decode .inOp 0x0000000810000000 = .ok (.blkEtc1 .morton) ∧
    decode .inOp 0x0000000820000000 = .ok (.blkEtc1a4 .morton) ∧
    decode .inOp 0x0000000830000000 = .ok (.blkDxt1 .morton) ∧
    decode .inOp 0x0000000840000000 = .ok (.blkDxt1alt .morton) ∧
    decode .inOp 0x0000000850000000 = .ok (.blkDxt1psp .morton) ∧
    decode .inOp 0x0000000860000000 = .ok (.blkDxt3 .morton) ∧
    decode .inOp 0x0000000870000000 = .ok (.blkDxt3psp .morton) ∧
    decode .inOp 0x0000000880000000 = .ok (.blkDxt5 .morton) ∧
    decode .inOp 0x0000000890000000 = .ok (.blkDxt5psp .morton) := by decide
theorem test_decode_blk_b :
    decode .inOp 0x00000008A0000000 = .ok (.blkRgtc1 .morton) ∧
    decode .inOp 0x00000008B0000000 = .ok (.blkRgtc1s .morton) ∧
    decode .inOp 0x00000008C0000000 = .ok (.blkRgtc2 .morton) ∧
    decode .inOp 0x00000008D0000000 = .ok (.blkRgtc2s .morton) ∧
    decode .inOp 0x00000008E0000000 = .ok (.blkBptc .morton) ∧
    decode .inOp 0x00000008F0000000 = .ok (.blkBptcf .morton) ∧
    decode .inOp 0x0000000900000000 = .ok (.blkBptcsf .morton) ∧
    decode .inOp 0x0000000910000000 = .ok (.blkPvrt2 .morton) ∧
    decode .inOp 0x0000000920000000 = .ok (.blkPvrt4 .morton) := by decide
theorem test_decode_idx :
    decode .inOp 0x0000000000000071 = .ok (.idx .b4) ∧ decode .inOp 0x0000000000000072 = .ok (.idx .b8) := by decide
theorem test_decode_reord :
    decode .inReorder 0x0000000000000000 = .ok .reordLinear ∧ decode .inReorder 0x0000000400000000 = .ok .reordTile3ds ∧
    decode .inReorder 0x0000000800000000 = .ok .reordMorton ∧ decode .inReorder 0x0000000C00000000 = .ok .reordPsp ∧
    decode .inReorder 0x0000001000000000 = .ok .reordSwitch ∧ decode .inReorder 0x0000001400000000 = .error .reservedReorder := by decide
theorem test_decode_filt :
    decode .outFilter 0x0000000000000000 = .ok .filtNone ∧ decode .outFilter 0x0000002000000000 = .ok .filtDither ∧
    decode .outFilter 0x0000004000000000 = .error .reservedFilter := by decide
/-- The order of the fields in a plain word (30_encoding.md rule R76). -/
theorem test_decode_operands :
    decode .inOp 0x00000000020C4116 = .ok (.chdecRgba ⟨.b64, 1, 2, 3, 4, .zero⟩) ∧
    decode .inOp 0x0000008000000451 = .ok (.chdecL ⟨.b4, 4, 0, 0, 0, .max⟩) := by decide

/-! ## States for the tests -/

/-- A memory with the given bytes from address 0. -/
def bytesAt (bs : List Byte) : Memory := Memory.writeBytes [] 0 bs

/-- `RGB565` with force max (30_encoding.md rule R93). -/
def rgb565 : DescWord := 0x000000800014c50b

/-- A job in stage `g`: sides, input word, output word, input bytes. -/
def inJob (g : Stage) (w h : Nat) (i o : DescWord) (bs : List Byte) : State :=
  { State.reset with
    width := BitVec.ofNat 32 w
    height := BitVec.ofNat 32 h
    inFmt := i
    outFmt := o
    inLen := BitVec.ofNat 32 bs.length
    inBuf := bytesAt bs
    status := .busy
    stage := g }

/-- A job between jobs, with the registers of every job written and a command pending. -/
def pending (c : Code2) (w h : Nat) (i o : DescWord) (bs : List Byte) : State :=
  { inJob .idle w h i o bs with
    status := .idle
    written := [.width, .height, .inFmt, .inEnd, .inLen]
    cmd := some c }

/-- A field of the state an outcome gives. -/
def get {α : Type} (f : State → α) : Result → Option α
  | .next s => some (f s)
  | .fault _ => none
  | .refused _ => none

/-- `CANON` after an instruction. -/
def canonAfter (i : Instr) (s : State) : Option (List Pixel) := get State.canon (exec i s)

/-- `STATUS.STATE`, `ERR_CODE`, `ERR_INFO` after an outcome. -/
def endOf (r : Result) : Option (Status × ErrCode × Word32) := get (fun s => (s.status, s.errCode, s.errInfo)) r

/-- The first bytes of `OUT` after an outcome, as many as `OUT_LEN` says. -/
def outAfter (r : Result) : Option (List Byte) := get (fun s => s.out.readBytes 0 s.outLen.toNat) r

/-! ## Commands, errors and validation (95_test_vectors.md 3.12, 3.13, 60_exceptions.md rule R425) -/

/-- The samples of 95_test_vectors.md 3.2 as a whole job in one step, from `CMD = 1` (70_reset_and_hazards.md rule R456). -/
theorem test_start_runs_job :
    let r := step (pending 1 3 1 rgb565 canonFmt [0x00, 0xF8, 0xE0, 0x07, 0x1F, 0x00])
    get (fun s => (s.status, s.stage, s.jobs)) r = some (.done, .done, 1) ∧
      outAfter r = some [0, 0, 255, 255, 0, 255, 0, 255, 255, 0, 0, 255] := by
  decide +kernel
/-- Ignored in `DONE` (10_state.md rule R32); the host's write refused with `IN_END` unwritten, while `START` itself runs
(10_state.md rule R40). -/
theorem test_start_ignored_in_done_host_refused_unwritten :
    let s := { pending 1 1 1 rgb565 canonFmt [0, 0] with cmd := none, written := [.width, .height, .inFmt, .inLen] }
    get (fun s => (s.status, s.cmd)) (step { State.reset with status := .done, cmd := some 1 }) = some (.done, none) ∧
      hostCommand 1 s = .refused .bootIncomplete ∧
      get (fun s => (s.status, s.stage)) (exec .start s) = some (.busy, .validate) := by
  exact ⟨by decide +kernel, rfl, by decide +kernel⟩
theorem test_clear_in_error :
    get (fun s => (s.status, s.errCode, s.errInfo, s.outLen))
      (exec .clear { State.reset with status := .error, errCode := .truncated, errInfo := 64, outLen := 16 }) =
      some (.idle, .none, 0, 16) := by decide +kernel
theorem test_validate_negative_width :
    endOf (exec .validate { inJob .validate 0 1 rgb565 canonFmt [] with width := 0xFFFFFFFF }) =
      some (.error, .validation, 0x00000001) := by decide +kernel
theorem test_validate_length :
    endOf (exec .validate (inJob .validate 5 5 0x0000000080000000 canonFmt (List.replicate 48 7))) =
      some (.error, .truncated, 0x00000040) := by decide +kernel

/-! ## The channel codec (42_channel_codec.md rules R174, R180, R181, 95_test_vectors.md 3.2, 3.3) -/
theorem test_chdec_rgb :
    canonAfter (.chdecRgb ⟨.b16, 5, 6, 5, 0, .max⟩) (inJob .decode 3 1 0 canonFmt [0x00, 0xF8, 0xE0, 0x07, 0x1F, 0x00]) =
      some [pixelOf 255 0 0 255, pixelOf 0 255 0 255, pixelOf 0 0 255 255] := by decide +kernel
theorem test_chdec_rgb_big :
    canonAfter (.chdecRgb ⟨.b24, 8, 8, 8, 0, .max⟩) ({ inJob .decode 1 1 0 canonFmt [0x33, 0x22, 0x11] with inEnd := 1 }) =
      some [pixelOf 51 34 17 255] := by decide +kernel
theorem test_chdec_rgba :
    canonAfter (.chdecRgba ⟨.b16, 5, 5, 5, 1, .zero⟩) (inJob .decode 2 1 0 canonFmt [0x01, 0xF8, 0xC0, 0x07]) =
      some [pixelOf 255 0 0 255, pixelOf 0 255 0 0] := by decide +kernel
theorem test_chdec_rgba_wide :
    canonAfter (.chdecRgba ⟨.b64, 16, 16, 16, 16, .zero⟩) (inJob .decode 1 1 0 canonFmt [0x80, 0x00, 0x00, 0x01, 0x00, 0x80, 0xFF, 0xFF]) =
      some [pixelOf 255 128 1 0] := by decide +kernel
theorem test_chdec_bgra :
    canonAfter (.chdecBgra ⟨.b32, 8, 8, 8, 8, .zero⟩) (inJob .decode 1 1 0 canonFmt [0x44, 0x33, 0x22, 0x11]) =
      some [pixelOf 51 34 17 68] := by decide +kernel
theorem test_chdec_argb :
    canonAfter (.chdecArgb ⟨.b16, 4, 4, 4, 4, .zero⟩) (inJob .decode 1 1 0 canonFmt [0x8C, 0xF4]) =
      some [pixelOf 68 136 204 255] := by decide +kernel
theorem test_chdec_abgr :
    canonAfter (.chdecAbgr ⟨.b32, 8, 8, 8, 8, .zero⟩) (inJob .decode 1 1 0 canonFmt [0x44, 0x33, 0x22, 0x11]) =
      some [pixelOf 68 51 34 17] := by decide +kernel
theorem test_chdec_rgbx :
    canonAfter (.chdecRgbx ⟨.b32, 8, 8, 8, 8, .zero⟩) (inJob .decode 1 1 0 canonFmt [0x44, 0x33, 0x22, 0x11]) =
      some [pixelOf 17 34 51 0] := by decide +kernel
theorem test_chdec_bgrx :
    canonAfter (.chdecBgrx ⟨.b32, 8, 8, 8, 8, .max⟩) (inJob .decode 1 1 0 canonFmt [0x44, 0x33, 0x22, 0x11]) =
      some [pixelOf 51 34 17 255] := by decide +kernel
theorem test_chdec_xrgb :
    canonAfter (.chdecXrgb ⟨.b32, 8, 8, 8, 8, .max⟩) (inJob .decode 1 1 0 canonFmt [0x33, 0x22, 0x11, 0xAA]) =
      some [pixelOf 17 34 51 255] := by decide +kernel
theorem test_chdec_xbgr :
    canonAfter (.chdecXbgr ⟨.b16, 5, 5, 5, 1, .zero⟩) (inJob .decode 1 1 0 canonFmt [0x1F, 0x80]) =
      some [pixelOf 255 0 0 0] := by decide +kernel
theorem test_chdec_l_nibbles :
    canonAfter (.chdecL ⟨.b4, 4, 0, 0, 0, .max⟩) (inJob .decode 3 1 0 canonFmt [0x1A, 0xF0]) =
      some [pixelOf 170 170 170 255, pixelOf 17 17 17 255, pixelOf 0 0 0 255] := by decide +kernel
theorem test_chdec_l_nibbles_big :
    canonAfter (.chdecL ⟨.b4, 4, 0, 0, 0, .max⟩) ({ inJob .decode 3 1 0 canonFmt [0x1A, 0xF0] with inEnd := 1 }) =
      some [pixelOf 17 17 17 255, pixelOf 170 170 170 255, pixelOf 255 255 255 255] := by decide +kernel
theorem test_chdec_a :
    canonAfter (.chdecA ⟨.b8, 0, 0, 0, 8, .max⟩) (inJob .decode 1 1 0 canonFmt [0x7B]) =
      some [pixelOf 255 255 255 123] := by decide +kernel
theorem test_chdec_la :
    canonAfter (.chdecLa ⟨.b16, 8, 0, 0, 8, .zero⟩) (inJob .decode 1 1 0 canonFmt [0xFF, 0x80]) =
      some [pixelOf 128 128 128 255] := by decide +kernel
theorem test_chdec_al :
    canonAfter (.chdecAl ⟨.b16, 8, 0, 0, 8, .zero⟩) (inJob .decode 1 1 0 canonFmt [0xFF, 0x80]) =
      some [pixelOf 255 255 255 128] := by decide +kernel
/-- A cursor that would pass `IN_LEN` (10_state.md rule R33). -/
theorem test_chdec_truncated :
    endOf (exec (.chdecA ⟨.b16, 0, 0, 0, 8, .max⟩) (inJob .decode 2 1 rgb565 canonFmt [0x00, 0xF8, 0xE0])) =
      some (.error, .truncated, 4) := by decide +kernel

theorem test_chenc_rgb :
    outAfter (exec (.chencRgb ⟨.b16, 5, 6, 5, 0, .max⟩) { inJob .pack 4 1 rgb565 canonFmt [] with canon := [pixelOf 255 0 0 255, pixelOf 0 255 0 0, pixelOf 0 0 255 9, pixelOf 100 100 100 255] }) =
      some [0x00, 0xF8, 0xE0, 0x07, 0x1F, 0x00, 0x2C, 0x63] := by decide +kernel
theorem test_chenc_rgb_big :
    outAfter (exec (.chencRgb ⟨.b24, 8, 8, 8, 0, .max⟩) { inJob .pack 1 1 rgb565 canonFmt [] with canon := [pixelOf 1 2 3 4], outEnd := 1 }) =
      some [0x01, 0x02, 0x03] := by decide +kernel
theorem test_chenc_rgba :
    outAfter (exec (.chencRgba ⟨.b16, 5, 5, 5, 1, .zero⟩) { inJob .pack 3 1 rgb565 canonFmt [] with canon := [pixelOf 255 255 255 127, pixelOf 255 255 255 128, pixelOf 8 16 24 255] }) =
      some [0xFE, 0xFF, 0xFF, 0xFF, 0x87, 0x08] := by decide +kernel
theorem test_chenc_bgra :
    outAfter (exec (.chencBgra ⟨.b32, 8, 8, 8, 8, .zero⟩) { inJob .pack 1 1 rgb565 canonFmt [] with canon := [pixelOf 1 2 3 4] }) =
      some [0x04, 0x01, 0x02, 0x03] := by decide +kernel
theorem test_chenc_argb :
    outAfter (exec (.chencArgb ⟨.b32, 8, 8, 8, 8, .max⟩) { inJob .pack 1 1 rgb565 canonFmt [] with canon := [pixelOf 17 34 51 68] }) =
      some [0x33, 0x22, 0x11, 0x44] := by decide +kernel
theorem test_chenc_argb_big :
    outAfter (exec (.chencArgb ⟨.b32, 8, 8, 8, 8, .max⟩) { inJob .pack 1 1 rgb565 canonFmt [] with canon := [pixelOf 17 34 51 68], outEnd := 1 }) =
      some [0x44, 0x11, 0x22, 0x33] := by decide +kernel
theorem test_chenc_abgr :
    outAfter (exec (.chencAbgr ⟨.b32, 8, 8, 8, 8, .zero⟩) { inJob .pack 1 1 rgb565 canonFmt [] with canon := [pixelOf 1 2 3 4] }) =
      some [0x01, 0x02, 0x03, 0x04] := by decide +kernel
theorem test_chenc_rgbx :
    outAfter (exec (.chencRgbx ⟨.b32, 8, 8, 8, 8, .max⟩) { inJob .pack 1 1 rgb565 canonFmt [] with canon := [pixelOf 1 2 3 4] }) =
      some [0xFF, 0x03, 0x02, 0x01] := by decide +kernel
theorem test_chenc_rgbx_zero :
    outAfter (exec (.chencRgbx ⟨.b32, 8, 8, 8, 8, .zero⟩) { inJob .pack 1 1 rgb565 canonFmt [] with canon := [pixelOf 1 2 3 4] }) =
      some [0x00, 0x03, 0x02, 0x01] := by decide +kernel
theorem test_chenc_bgrx :
    outAfter (exec (.chencBgrx ⟨.b32, 8, 8, 8, 8, .max⟩) { inJob .pack 1 1 rgb565 canonFmt [] with canon := [pixelOf 1 2 3 4] }) =
      some [0xFF, 0x01, 0x02, 0x03] := by decide +kernel
theorem test_chenc_xrgb :
    outAfter (exec (.chencXrgb ⟨.b32, 8, 8, 8, 8, .max⟩) { inJob .pack 1 1 rgb565 canonFmt [] with canon := [pixelOf 1 2 3 4] }) =
      some [0x03, 0x02, 0x01, 0xFF] := by decide +kernel
theorem test_chenc_xbgr :
    outAfter (exec (.chencXbgr ⟨.b32, 8, 8, 8, 8, .zero⟩) { inJob .pack 1 1 rgb565 canonFmt [] with canon := [pixelOf 1 2 3 4] }) =
      some [0x01, 0x02, 0x03, 0x00] := by decide +kernel
theorem test_chenc_l :
    outAfter (exec (.chencL ⟨.b4, 4, 0, 0, 0, .zero⟩) { inJob .pack 3 1 rgb565 canonFmt [] with canon := [pixelOf 0 0 0 255, pixelOf 17 17 17 255, pixelOf 255 255 255 0] }) =
      some [0x10, 0x0F] := by decide +kernel
theorem test_chenc_l_luma :
    outAfter (exec (.chencL ⟨.b8, 8, 0, 0, 0, .zero⟩) { inJob .pack 1 1 rgb565 canonFmt [] with canon := [pixelOf 10 20 31 4] }) =
      some [0x14] := by decide +kernel
theorem test_chenc_a :
    outAfter (exec (.chencA ⟨.b8, 0, 0, 0, 8, .zero⟩) { inJob .pack 1 1 rgb565 canonFmt [] with canon := [pixelOf 1 2 3 200] }) =
      some [0xC8] := by decide +kernel
theorem test_chenc_la :
    outAfter (exec (.chencLa ⟨.b16, 8, 0, 0, 8, .zero⟩) { inJob .pack 1 1 rgb565 canonFmt [] with canon := [pixelOf 10 20 30 40] }) =
      some [0x28, 0x14] := by decide +kernel
theorem test_chenc_al :
    outAfter (exec (.chencAl ⟨.b16, 8, 0, 0, 8, .zero⟩) { inJob .pack 1 1 rgb565 canonFmt [] with canon := [pixelOf 10 20 30 40] }) =
      some [0x14, 0x28] := by decide +kernel

/-! ## Indexed jobs (95_test_vectors.md 3.4, program P3) -/

/-- The indexed job of program P3 in a stage, with a palette length. -/
def indexedJob (g : Stage) (len : Word32) : State :=
  { inJob g 4 2 0x71 canonFmt [0x10, 0x32, 0x54, 0x76] with
    palFmt := 0x000000000094a513
    palCount := 1
    palLen := len :: List.replicate 15 0
    pal := bytesAt [0x01, 0xF8, 0xC1, 0x07, 0x3F, 0x00, 0xFF, 0xFF, 0x00, 0x00, 0xFE, 0xFF, 0x21, 0x84, 0xDE, 0xFB] ::
      List.replicate 15 [] }

theorem test_idx :
    get (fun s => (s.idxBuf, s.tables)) (exec (.idx .b4) (indexedJob .decode 16)) =
      some ([0, 1, 2, 3, 4, 5, 6, 7],
        [[pixelOf 255 0 0 255, pixelOf 0 255 0 255, pixelOf 0 0 255 255, pixelOf 255 255 255 255, pixelOf 0 0 0 0,
          pixelOf 255 255 255 0, pixelOf 132 132 132 255, pixelOf 255 123 123 0]]) := by decide +kernel
theorem test_idx_palette_range :
    endOf (exec (.idx .b4) (indexedJob .decode 14)) = some (.error, .paletteRange, 0x00000007) := by decide +kernel
theorem test_pack_indexed :
    get (fun s => (s.outLen, s.out.readBytes 0 4, s.tblLen.take 2, (s.tbl.getD 0 []).readBytes 0 8))
      (step { indexedJob .pack 16 with
        idxBuf := [0, 1, 2, 3, 4, 5, 6, 7], tables := [[pixelOf 255 0 0 255, pixelOf 1 2 3 4]] }) =
      some (8, [0, 1, 2, 3], [8, 0], [0, 0, 255, 255, 3, 2, 1, 4]) := by decide +kernel

/-! ## Block codecs (95_test_vectors.md 3.5 to 3.9 and the worked blocks of the codec files) -/

theorem test_blk_dxt1_four_colours :
    canonAfter (.blkDxt1 .linear) (inJob .decode 4 4 0x0000000030000000 canonFmt [0x00, 0xF8, 0x1F, 0x00, 0x1B, 0x1B, 0x1B, 0x1B]) =
      some ([pixelOf 85 0 170 255, pixelOf 170 0 85 255, pixelOf 0 0 255 255, pixelOf 255 0 0 255] ++ [pixelOf 85 0 170 255, pixelOf 170 0 85 255, pixelOf 0 0 255 255, pixelOf 255 0 0 255] ++ [pixelOf 85 0 170 255, pixelOf 170 0 85 255, pixelOf 0 0 255 255, pixelOf 255 0 0 255] ++ [pixelOf 85 0 170 255, pixelOf 170 0 85 255, pixelOf 0 0 255 255, pixelOf 255 0 0 255]) := by decide +kernel
theorem test_blk_dxt1_three_colours :
    canonAfter (.blkDxt1 .linear) (inJob .decode 4 4 0x0000000030000000 canonFmt [0x1F, 0x00, 0x00, 0xF8, 0x1B, 0x1B, 0x1B, 0x1B]) =
      some ([pixelOf 0 0 0 0, pixelOf 127 0 127 255, pixelOf 255 0 0 255, pixelOf 0 0 255 255] ++ [pixelOf 0 0 0 0, pixelOf 127 0 127 255, pixelOf 255 0 0 255, pixelOf 0 0 255 255] ++ [pixelOf 0 0 0 0, pixelOf 127 0 127 255, pixelOf 255 0 0 255, pixelOf 0 0 255 255] ++ [pixelOf 0 0 0 0, pixelOf 127 0 127 255, pixelOf 255 0 0 255, pixelOf 0 0 255 255]) := by decide +kernel
theorem test_blk_dxt1alt :
    canonAfter (.blkDxt1alt .linear) (inJob .decode 1 1 0x0000000040000000 canonFmt [0xF8, 0x00, 0x00, 0x1F, 0x00, 0x00, 0x00, 0x00]) =
      some (List.replicate 1 (pixelOf 0 28 198 255)) := by decide +kernel
theorem test_blk_dxt1alt_swapped :
    canonAfter (.blkDxt1alt .linear) { inJob .decode 1 1 0x0000000040000000 canonFmt [0xF8, 0, 0, 0x1F, 0, 0, 0, 0] with
      cfg := { Config.default with dxt1AltByteswap := true } } = some [pixelOf 255 0 0 255] := by decide +kernel
theorem test_blk_dxt1psp :
    canonAfter (.blkDxt1psp .linear) (inJob .decode 4 4 0x0000000050000000 canonFmt [0x1B, 0x1B, 0x1B, 0x1B, 0x00, 0xF8, 0x1F, 0x00]) =
      some ([pixelOf 85 0 170 255, pixelOf 170 0 85 255, pixelOf 0 0 255 255, pixelOf 255 0 0 255] ++ [pixelOf 85 0 170 255, pixelOf 170 0 85 255, pixelOf 0 0 255 255, pixelOf 255 0 0 255] ++ [pixelOf 85 0 170 255, pixelOf 170 0 85 255, pixelOf 0 0 255 255, pixelOf 255 0 0 255] ++ [pixelOf 85 0 170 255, pixelOf 170 0 85 255, pixelOf 0 0 255 255, pixelOf 255 0 0 255]) := by decide +kernel
theorem test_blk_dxt3 :
    canonAfter (.blkDxt3 .linear) (inJob .decode 4 4 0x0000000060000000 canonFmt [0xFF, 0xFF, 0xFF, 0xFF, 0x00, 0x00, 0x00, 0x00, 0x00, 0xF8, 0x1F, 0x00, 0x00, 0xFF, 0x55, 0xAA]) =
      some ([pixelOf 255 0 0 255, pixelOf 255 0 0 255, pixelOf 255 0 0 255, pixelOf 255 0 0 255] ++
        [pixelOf 85 0 170 255, pixelOf 85 0 170 255, pixelOf 85 0 170 255, pixelOf 85 0 170 255] ++
        [pixelOf 0 0 255 0, pixelOf 0 0 255 0, pixelOf 0 0 255 0, pixelOf 0 0 255 0] ++
        [pixelOf 170 0 85 0, pixelOf 170 0 85 0, pixelOf 170 0 85 0, pixelOf 170 0 85 0]) := by decide +kernel
theorem test_blk_dxt3psp :
    canonAfter (.blkDxt3psp .linear) (inJob .decode 4 4 0x0000000070000000 canonFmt [0x00, 0xFF, 0x55, 0xAA, 0x00, 0xF8, 0x1F, 0x00, 0xFF, 0xFF, 0xFF, 0xFF, 0x00, 0x00, 0x00, 0x00]) =
      some ([pixelOf 255 0 0 255, pixelOf 255 0 0 255, pixelOf 255 0 0 255, pixelOf 255 0 0 255] ++
        [pixelOf 85 0 170 255, pixelOf 85 0 170 255, pixelOf 85 0 170 255, pixelOf 85 0 170 255] ++
        [pixelOf 0 0 255 0, pixelOf 0 0 255 0, pixelOf 0 0 255 0, pixelOf 0 0 255 0] ++
        [pixelOf 170 0 85 0, pixelOf 170 0 85 0, pixelOf 170 0 85 0, pixelOf 170 0 85 0]) := by decide +kernel
theorem test_blk_dxt5 :
    canonAfter (.blkDxt5 .linear) (inJob .decode 4 4 0x0000000080000000 canonFmt [0x00, 0xFF, 0x88, 0x46, 0x15, 0x8C, 0x4C, 0x3D, 0xFF, 0xFF, 0x00, 0x00, 0x00, 0x00, 0x00, 0x00]) =
      some ([pixelOf 255 255 255 0, pixelOf 255 255 255 255, pixelOf 255 255 255 51, pixelOf 255 255 255 102] ++
        [pixelOf 255 255 255 153, pixelOf 255 255 255 51, pixelOf 255 255 255 204, pixelOf 255 255 255 0] ++
        [pixelOf 255 255 255 153, pixelOf 255 255 255 255, pixelOf 255 255 255 51, pixelOf 255 255 255 0] ++
        [pixelOf 255 255 255 153, pixelOf 255 255 255 51, pixelOf 255 255 255 255, pixelOf 255 255 255 255]) := by decide +kernel
theorem test_blk_dxt5psp :
    canonAfter (.blkDxt5psp .linear) (inJob .decode 4 4 0x0000000090000000 canonFmt [0x00, 0x00, 0x00, 0x00, 0xFF, 0xFF, 0x00, 0x00, 0x88, 0xC6, 0xFA, 0x88, 0xC6, 0xFA, 0x64, 0xC8]) =
      some ([pixelOf 255 255 255 100, pixelOf 255 255 255 200, pixelOf 255 255 255 120, pixelOf 255 255 255 140] ++
        [pixelOf 255 255 255 160, pixelOf 255 255 255 180, pixelOf 255 255 255 0, pixelOf 255 255 255 255] ++
        [pixelOf 255 255 255 100, pixelOf 255 255 255 200, pixelOf 255 255 255 120, pixelOf 255 255 255 140] ++
        [pixelOf 255 255 255 160, pixelOf 255 255 255 180, pixelOf 255 255 255 0, pixelOf 255 255 255 255]) := by decide +kernel
theorem test_blk_rgtc1 :
    canonAfter (.blkRgtc1 .linear) (inJob .decode 4 4 0x00000000A0000000 canonFmt [0xFF, 0x00, 0x88, 0x46, 0x15, 0x8C, 0x4C, 0x3D]) =
      some ([pixelOf 255 0 0 255, pixelOf 0 0 0 255, pixelOf 218 0 0 255, pixelOf 182 0 0 255] ++
        [pixelOf 145 0 0 255, pixelOf 218 0 0 255, pixelOf 109 0 0 255, pixelOf 255 0 0 255] ++
        [pixelOf 145 0 0 255, pixelOf 0 0 0 255, pixelOf 218 0 0 255, pixelOf 72 0 0 255] ++
        [pixelOf 145 0 0 255, pixelOf 218 0 0 255, pixelOf 36 0 0 255, pixelOf 0 0 0 255]) := by decide +kernel
theorem test_blk_rgtc1s :
    canonAfter (.blkRgtc1s .linear) (inJob .decode 4 4 0x00000000B0000000 canonFmt [0x7F, 0x81, 0x88, 0x46, 0x15, 0x8C, 0x4C, 0x3D]) =
      some ([pixelOf 255 0 0 255, pixelOf 1 0 0 255, pixelOf 218 0 0 255, pixelOf 182 0 0 255] ++
        [pixelOf 146 0 0 255, pixelOf 218 0 0 255, pixelOf 110 0 0 255, pixelOf 255 0 0 255] ++
        [pixelOf 146 0 0 255, pixelOf 1 0 0 255, pixelOf 218 0 0 255, pixelOf 74 0 0 255] ++
        [pixelOf 146 0 0 255, pixelOf 218 0 0 255, pixelOf 38 0 0 255, pixelOf 1 0 0 255]) := by decide +kernel
theorem test_blk_rgtc2 :
    canonAfter (.blkRgtc2 .linear) (inJob .decode 4 4 0x00000000C0000000 canonFmt [0xFF, 0x00, 0x88, 0xC6, 0xFA, 0x88, 0xC6, 0xFA, 0x0A, 0x14, 0x00, 0x00, 0x00, 0x00, 0x00, 0x00]) =
      some ([pixelOf 255 10 0 255, pixelOf 0 10 0 255, pixelOf 218 10 0 255, pixelOf 182 10 0 255] ++
        [pixelOf 145 10 0 255, pixelOf 109 10 0 255, pixelOf 72 10 0 255, pixelOf 36 10 0 255] ++
        [pixelOf 255 10 0 255, pixelOf 0 10 0 255, pixelOf 218 10 0 255, pixelOf 182 10 0 255] ++
        [pixelOf 145 10 0 255, pixelOf 109 10 0 255, pixelOf 72 10 0 255, pixelOf 36 10 0 255]) := by decide +kernel
theorem test_blk_rgtc2s :
    canonAfter (.blkRgtc2s .linear) (inJob .decode 4 4 0x00000000D0000000 canonFmt [0x40, 0xC0, 0x88, 0xC6, 0xFA, 0x88, 0xC6, 0xFA, 0x00, 0x00, 0x00, 0x00, 0x00, 0x00, 0x00, 0xFF]) =
      some ([pixelOf 192 128 0 255, pixelOf 64 128 0 255, pixelOf 173 128 0 255, pixelOf 155 128 0 255] ++
        [pixelOf 137 128 0 255, pixelOf 119 128 0 255, pixelOf 101 128 0 255, pixelOf 83 128 0 255] ++
        [pixelOf 192 128 0 255, pixelOf 64 128 0 255, pixelOf 173 128 0 255, pixelOf 155 128 0 255] ++
        [pixelOf 137 128 0 255, pixelOf 119 0 0 255, pixelOf 101 255 0 255, pixelOf 83 255 0 255]) := by decide +kernel
theorem test_blk_etc1 :
    canonAfter (.blkEtc1 .linear) (inJob .decode 8 8 0x0000000010000000 canonFmt [0x0F, 0x0F, 0xFF, 0x00, 0x1C, 0x0F, 0x84, 0xF0, 0xFF, 0x00, 0x00, 0xFF, 0x74, 0x3C, 0x2D, 0x1E, 0x00, 0x00, 0x00, 0x00, 0x4A, 0x07, 0x84, 0xF3, 0xAA, 0xAA, 0xCC, 0xCC, 0x3B, 0x60, 0x67, 0x61]) =
      some ([pixelOf 247 128 0 255, pixelOf 253 134 0 255, pixelOf 183 251 255 255, pixelOf 47 115 255 255] ++
        [pixelOf 59 76 93 255, pixelOf 59 76 93 255, pixelOf 214 197 180 255, pixelOf 214 197 180 255] ++
        [pixelOf 247 128 0 255, pixelOf 253 134 0 255, pixelOf 183 251 255 255, pixelOf 47 115 255 255] ++
        [pixelOf 59 76 93 255, pixelOf 59 76 93 255, pixelOf 214 197 180 255, pixelOf 214 197 180 255] ++
        [pixelOf 247 128 0 255, pixelOf 253 134 0 255, pixelOf 183 251 255 255, pixelOf 47 115 255 255] ++
        [pixelOf 59 76 93 255, pixelOf 59 76 93 255, pixelOf 214 197 180 255, pixelOf 214 197 180 255] ++
        [pixelOf 247 128 0 255, pixelOf 253 134 0 255, pixelOf 183 251 255 255, pixelOf 47 115 255 255] ++
        [pixelOf 59 76 93 255, pixelOf 59 76 93 255, pixelOf 214 197 180 255, pixelOf 214 197 180 255] ++
        [pixelOf 255 141 9 255, pixelOf 255 141 9 255, pixelOf 17 108 255 255, pixelOf 17 108 255 255] ++
        [pixelOf 104 104 104 255, pixelOf 104 104 104 255, pixelOf 104 104 104 255, pixelOf 104 104 104 255] ++
        [pixelOf 255 141 9 255, pixelOf 255 141 9 255, pixelOf 17 108 255 255, pixelOf 17 108 255 255] ++
        [pixelOf 116 116 116 255, pixelOf 116 116 116 255, pixelOf 116 116 116 255, pixelOf 116 116 116 255] ++
        [pixelOf 255 141 9 255, pixelOf 255 141 9 255, pixelOf 17 108 255 255, pixelOf 17 108 255 255] ++
        [pixelOf 74 57 66 255, pixelOf 74 57 66 255, pixelOf 74 57 66 255, pixelOf 74 57 66 255] ++
        [pixelOf 255 141 9 255, pixelOf 255 141 9 255, pixelOf 17 108 255 255, pixelOf 17 108 255 255] ++
        [pixelOf 1 0 0 255, pixelOf 1 0 0 255, pixelOf 1 0 0 255, pixelOf 1 0 0 255]) := by decide +kernel
theorem test_blk_etc1a4 :
    canonAfter (.blkEtc1a4 .linear) (inJob .decode 4 4 0x0000000020000000 canonFmt [0x10, 0x32, 0x54, 0x76, 0x98, 0xBA, 0xDC, 0xFE, 0x5A, 0x3C, 0xC3, 0xA5, 0x77, 0x28, 0xA6, 0x52, 0x00, 0x00, 0x00, 0x00, 0x00, 0x00, 0x00, 0x00, 0x00, 0x00, 0x00, 0x00, 0x00, 0x00, 0x00, 0x00, 0x00, 0x00, 0x00, 0x00, 0x00, 0x00, 0x00, 0x00, 0x00, 0x00, 0x00, 0x00, 0x00, 0x00, 0x00, 0x00, 0x00, 0x00, 0x00, 0x00, 0x00, 0x00, 0x00, 0x00, 0x00, 0x00, 0x00, 0x00, 0x00, 0x00, 0x00, 0x00]) =
      some ([pixelOf 69 152 28 0, pixelOf 124 207 83 68, pixelOf 69 152 28 136, pixelOf 124 207 83 204] ++
        [pixelOf 40 123 0 17, pixelOf 95 178 54 85, pixelOf 95 178 54 153, pixelOf 40 123 0 221] ++
        [pixelOf 123 172 65 34, pixelOf 19 68 0 102, pixelOf 19 68 0 170, pixelOf 123 172 65 238] ++
        [pixelOf 179 228 121 51, pixelOf 75 124 17 119, pixelOf 179 228 121 187, pixelOf 75 124 17 255]) := by decide +kernel
theorem test_blk_bptc_mode1 :
    canonAfter (.blkBptc .linear) (inJob .decode 4 4 0x00000000E0000000 canonFmt [0x36, 0x3F, 0x00, 0xFC, 0xC0, 0x0F, 0x00, 0x0A, 0xE5, 0xA1, 0x11, 0x8D, 0xF5, 0xEF, 0x72, 0xCA]) =
      some ([pixelOf 255 2 42 255, pixelOf 219 38 48 255, pixelOf 184 73 53 255, pixelOf 148 109 59 255] ++
        [pixelOf 109 148 65 255, pixelOf 73 184 71 255, pixelOf 38 219 76 255, pixelOf 2 255 82 255] ++
        [pixelOf 253 0 161 255, pixelOf 217 0 155 255, pixelOf 182 0 149 255, pixelOf 146 0 144 255] ++
        [pixelOf 107 0 137 255, pixelOf 71 0 132 255, pixelOf 36 0 126 255, pixelOf 107 0 137 255]) := by decide +kernel
theorem test_blk_bptc_mode4_rotated :
    canonAfter (.blkBptc .linear) (inJob .decode 4 4 0x00000000E0000000 canonFmt [0xB0, 0x1F, 0x80, 0x0F, 0xE1, 0x0F, 0xC8, 0xC9, 0xC9, 0xC9, 0x89, 0xC6, 0xFA, 0x88, 0xC6, 0xFA]) =
      some ([pixelOf 255 0 132 255, pixelOf 171 36 132 219, pixelOf 84 72 132 183, pixelOf 0 108 132 147] ++
        [pixelOf 255 147 132 108, pixelOf 171 183 132 72, pixelOf 84 219 132 36, pixelOf 0 255 132 0] ++
        [pixelOf 255 0 132 255, pixelOf 171 36 132 219, pixelOf 84 72 132 183, pixelOf 0 108 132 147] ++
        [pixelOf 255 147 132 108, pixelOf 171 183 132 72, pixelOf 84 219 132 36, pixelOf 0 255 132 0]) := by decide +kernel
theorem test_blk_bptcf_mode1 :
    canonAfter (.blkBptcf .linear) (inJob .decode 4 4 0x00000000F0000000 canonFmt [0x40, 0x38, 0xD7, 0xAC, 0x7B, 0x0A, 0xFE, 0x0F, 0xB6, 0xA8, 0x11, 0x8D, 0xF5, 0xEF, 0x72, 0xCA]) =
      some ([pixelOf 104 66 159 255, pixelOf 108 63 158 255, pixelOf 113 60 157 255, pixelOf 117 58 157 255] ++
        [pixelOf 121 56 156 255, pixelOf 125 54 156 255, pixelOf 131 52 155 255, pixelOf 139 49 155 255] ++
        [pixelOf 75 95 162 255, pixelOf 78 92 162 255, pixelOf 81 89 161 255, pixelOf 84 87 161 255] ++
        [pixelOf 87 84 160 255, pixelOf 89 81 160 255, pixelOf 92 78 159 255, pixelOf 87 84 160 255]) := by decide +kernel
theorem test_blk_bptcf_mode10 :
    canonAfter (.blkBptcf .linear) (inJob .decode 4 4 0x00000000F0000000 canonFmt [0xFE, 0x47, 0xE0, 0xBE, 0x04, 0xF0, 0x47, 0x90, 0x29, 0x1E, 0x70, 0x7C, 0xDB, 0xA2, 0xFA, 0xF8]) =
      some ([pixelOf 255 0 255 255, pixelOf 0 255 255 255, pixelOf 8 255 255 255, pixelOf 255 255 8 255] ++
        [pixelOf 255 69 255 255, pixelOf 255 69 255 255, pixelOf 255 255 255 255, pixelOf 255 255 255 255] ++
        [pixelOf 255 0 255 255, pixelOf 255 3 255 255, pixelOf 255 255 255 255, pixelOf 255 255 53 255] ++
        [pixelOf 0 255 255 255, pixelOf 255 0 255 255, pixelOf 255 255 8 255, pixelOf 255 255 255 255]) := by decide +kernel
theorem test_blk_bptcsf_mode11 :
    canonAfter (.blkBptcsf .linear) (inJob .decode 4 4 0x0000000100000000 canonFmt [0x03, 0x19, 0x7C, 0x3E, 0xC6, 0x07, 0x99, 0x70, 0x10, 0x32, 0x54, 0x76, 0x98, 0xBA, 0xDC, 0xFE]) =
      some ([pixelOf 36 255 0 255, pixelOf 42 238 0 255, pixelOf 49 209 0 255, pixelOf 55 186 0 255] ++
        [pixelOf 61 162 0 255, pixelOf 70 139 0 255, pixelOf 84 119 0 255, pixelOf 96 107 0 255] ++
        [pixelOf 107 96 0 255, pixelOf 119 84 0 255, pixelOf 139 70 0 255, pixelOf 162 61 1 255] ++
        [pixelOf 186 55 2 255, pixelOf 209 49 7 255, pixelOf 238 42 31 255, pixelOf 255 36 105 255]) := by decide +kernel
theorem test_blk_bptcsf_mode12 :
    canonAfter (.blkBptcsf .linear) (inJob .decode 4 4 0x0000000100000000 canonFmt [0x07, 0x80, 0xFF, 0x03, 0xF8, 0x3F, 0x00, 0x80, 0x10, 0x32, 0x54, 0x76, 0x98, 0xBA, 0xDC, 0xFE]) =
      some ([pixelOf 0 255 0 255, pixelOf 0 255 0 255, pixelOf 0 255 0 255, pixelOf 0 255 0 255] ++
        [pixelOf 0 195 0 255, pixelOf 0 13 0 255, pixelOf 0 0 0 255, pixelOf 0 0 0 255] ++
        [pixelOf 0 0 0 255, pixelOf 0 0 0 255, pixelOf 13 0 0 255, pixelOf 195 0 0 255] ++
        [pixelOf 255 0 0 255, pixelOf 255 0 0 255, pixelOf 255 0 0 255, pixelOf 255 0 0 255]) := by decide +kernel
theorem test_blk_pvrt4_punch :
    canonAfter (.blkPvrt4 .linear) (inJob .decode 4 4 0x0000000120000000 canonFmt [0xE4, 0x39, 0x4E, 0x93, 0x11, 0xFC, 0xF0, 0x83]) =
      some ([pixelOf 255 0 140 255, pixelOf 127 127 136 255, pixelOf 127 127 136 0, pixelOf 0 255 132 255] ++
        [pixelOf 127 127 136 255, pixelOf 127 127 136 0, pixelOf 0 255 132 255, pixelOf 255 0 140 255] ++
        [pixelOf 127 127 136 0, pixelOf 0 255 132 255, pixelOf 255 0 140 255, pixelOf 127 127 136 255] ++
        [pixelOf 0 255 132 255, pixelOf 255 0 140 255, pixelOf 127 127 136 255, pixelOf 127 127 136 0]) := by decide +kernel
theorem test_blk_pvrt4_two_words :
    canonAfter (.blkPvrt4 .linear) (inJob .decode 8 4 0x0000000120000000 canonFmt [0xE4, 0xE4, 0xE4, 0xE4, 0x00, 0xFC, 0x1F, 0x80, 0xE4, 0xE4, 0xE4, 0xE4, 0xE0, 0x83, 0xFF, 0xFF]) =
      some ([pixelOf 127 127 0 255, pixelOf 143 63 95 255, pixelOf 95 0 159 255, pixelOf 63 63 255 255] ++
        [pixelOf 127 127 0 255, pixelOf 111 191 95 255, pixelOf 159 255 159 255, pixelOf 191 191 255 255] ++
        [pixelOf 127 127 0 255, pixelOf 143 63 95 255, pixelOf 95 0 159 255, pixelOf 63 63 255 255] ++
        [pixelOf 127 127 0 255, pixelOf 111 191 95 255, pixelOf 159 255 159 255, pixelOf 191 191 255 255] ++
        [pixelOf 127 127 0 255, pixelOf 143 63 95 255, pixelOf 95 0 159 255, pixelOf 63 63 255 255] ++
        [pixelOf 127 127 0 255, pixelOf 111 191 95 255, pixelOf 159 255 159 255, pixelOf 191 191 255 255] ++
        [pixelOf 127 127 0 255, pixelOf 143 63 95 255, pixelOf 95 0 159 255, pixelOf 63 63 255 255] ++
        [pixelOf 127 127 0 255, pixelOf 111 191 95 255, pixelOf 159 255 159 255, pixelOf 191 191 255 255]) := by decide +kernel
theorem test_blk_pvrt2_sub1 :
    canonAfter (.blkPvrt2 .linear) (inJob .decode 8 4 0x0000000110000000 canonFmt [0xE6, 0x1B, 0xEC, 0xA5, 0x01, 0x80, 0xFF, 0xFF]) =
      some ([pixelOf 255 255 255 255, pixelOf 191 191 191 255, pixelOf 95 95 95 255, pixelOf 127 127 127 255] ++
        [pixelOf 159 159 159 255, pixelOf 159 159 159 255, pixelOf 255 255 255 255, pixelOf 159 159 159 255] ++
        [pixelOf 127 127 127 255, pixelOf 255 255 255 255, pixelOf 191 191 191 255, pixelOf 159 159 159 255] ++
        [pixelOf 159 159 159 255, pixelOf 95 95 95 255, pixelOf 159 159 159 255, pixelOf 0 0 0 255] ++
        [pixelOf 0 0 0 255, pixelOf 159 159 159 255, pixelOf 255 255 255 255, pixelOf 159 159 159 255] ++
        [pixelOf 159 159 159 255, pixelOf 159 159 159 255, pixelOf 255 255 255 255, pixelOf 95 95 95 255] ++
        [pixelOf 127 127 127 255, pixelOf 95 95 95 255, pixelOf 127 127 127 255, pixelOf 95 95 95 255] ++
        [pixelOf 159 159 159 255, pixelOf 159 159 159 255, pixelOf 223 223 223 255, pixelOf 159 159 159 255]) := by decide +kernel
theorem test_blk_pvrt2_sub3 :
    canonAfter (.blkPvrt2 .linear) (inJob .decode 8 4 0x0000000110000000 canonFmt [0xE7, 0x1B, 0xFC, 0xA5, 0x01, 0x80, 0xFF, 0xFF]) =
      some ([pixelOf 255 255 255 255, pixelOf 191 191 191 255, pixelOf 95 95 95 255, pixelOf 127 127 127 255] ++
        [pixelOf 159 159 159 255, pixelOf 127 127 127 255, pixelOf 255 255 255 255, pixelOf 95 95 95 255] ++
        [pixelOf 127 127 127 255, pixelOf 255 255 255 255, pixelOf 191 191 191 255, pixelOf 159 159 159 255] ++
        [pixelOf 223 223 223 255, pixelOf 95 95 95 255, pixelOf 255 255 255 255, pixelOf 0 0 0 255] ++
        [pixelOf 0 0 0 255, pixelOf 191 191 191 255, pixelOf 255 255 255 255, pixelOf 127 127 127 255] ++
        [pixelOf 255 255 255 255, pixelOf 127 127 127 255, pixelOf 255 255 255 255, pixelOf 95 95 95 255] ++
        [pixelOf 127 127 127 255, pixelOf 95 95 95 255, pixelOf 191 191 191 255, pixelOf 95 95 95 255] ++
        [pixelOf 223 223 223 255, pixelOf 159 159 159 255, pixelOf 255 255 255 255, pixelOf 159 159 159 255]) := by decide +kernel
/-- A picture smaller than its tile keeps the texels inside it (program P2, variant 3 by 3). -/
theorem test_blk_clips :
    canonAfter (.blkDxt1psp .linear) (inJob .decode 3 1 0x50000000 canonFmt [0x1B, 0x1B, 0x1B, 0x1B, 0x00, 0xF8, 0x1F, 0x00]) =
      some [pixelOf 85 0 170 255, pixelOf 170 0 85 255, pixelOf 0 0 255 255] := by decide +kernel

/-! ## Reordering (95_test_vectors.md 3.10, 48_reorder.md rules R374, R382, R385) -/

/-- A plain 8-bit job whose `CANON` pixel `i` has red `i`. -/
def ramp (w h : Nat) (i : DescWord) : State :=
  { inJob .reorder w h i canonFmt [] with canon := (List.range (w * h)).map fun n => pixelOf n 0 0 0 }

/-- The reds of `CANON` after an instruction. -/
def redsAfter (i : Instr) (s : State) : Option (List Nat) := get (fun t => t.canon.map fun p => p.r.toNat) (exec i s)

theorem test_reord_linear : redsAfter .reordLinear (ramp 3 2 0x852) = some [0, 1, 2, 3, 4, 5] := by decide +kernel
theorem test_reord_tile3ds :
    (redsAfter .reordTile3ds (ramp 8 8 0x852)).map (List.take 16) =
      some [0, 1, 4, 5, 16, 17, 20, 21, 2, 3, 6, 7, 18, 19, 22, 23] := by decide +kernel
theorem test_reord_morton :
    redsAfter .reordMorton (ramp 8 4 0x852) =
      some ([0, 2, 8, 10, 16, 18, 24, 26] ++ [1, 3, 9, 11, 17, 19, 25, 27] ++ [4, 6, 12, 14, 20, 22, 28, 30] ++
        [5, 7, 13, 15, 21, 23, 29, 31]) := by decide +kernel
theorem test_reord_morton_last_writer :
    redsAfter .reordMorton (ramp 5 3 0x852) =
      some ([3, 0, 7, 0, 11] ++ [0, 0, 0, 0, 0] ++ [0, 0, 0, 0, 14]) := by decide +kernel
theorem test_reord_psp :
    (redsAfter .reordPsp { ramp 8 8 0x4210825 with cfg := { Config.default with implReorderPsp := true } }).map
      (List.take 16) = some [0, 1, 2, 3, 32, 33, 34, 35, 4, 5, 6, 7, 36, 37, 38, 39] := by decide +kernel
theorem test_reord_psp_unimplemented :
    endOf (exec .reordPsp (ramp 8 8 0x4210825)) = some (.error, .unsupported, 4) := by decide +kernel
theorem test_reord_switch :
    (redsAfter .reordSwitch { ramp 16 8 0x4210825 with cfg := { Config.default with implReorderSwitch := true } }).map
      (List.take 20) = some [0, 1, 2, 3, 8, 9, 10, 11, 64, 65, 66, 67, 72, 73, 74, 75, 4, 5, 6, 7] := by decide +kernel

/-! ## The filter (95_test_vectors.md program P5, 49_filter.md rule R404) -/

theorem test_filt_none :
    get (fun s => (s.canon, s.stage)) (exec .filtNone { ramp 2 1 0x852 with stage := .filter }) =
      some ([pixelOf 0 0 0 0, pixelOf 1 0 0 0], .pack) := by decide +kernel
theorem test_filt_dither :
    canonAfter .filtDither { inJob .filter 2 2 0x852 0x000000200014c50b [] with
      canon := [pixelOf 0 255 7 255, pixelOf 36 219 8 255, pixelOf 0 255 7 255, pixelOf 36 219 8 255] } =
      some [pixelOf 0 255 7 255, pixelOf 40 221 12 255, pixelOf 6 255 13 255, pixelOf 38 220 10 255] := by decide +kernel
theorem test_filt_dither_skips_indices :
    canonAfter .filtDither { inJob .filter 1 1 0x71 0x000000200014c50b [] with canon := [pixelOf 36 36 36 36] } =
      some [pixelOf 36 36 36 36] := by decide +kernel

/-! ## Witnesses: for every statement with hypotheses, states and operands that meet them, at the ends of their ranges -/

/-- The state an outcome gives. -/
def after (r : Result) : State := (get id r).getD State.reset

theorem next_after {r : Result} (h : (get (fun _ => ()) r).isSome = true) : r = .next (after r) := by
  cases r <;> simp_all [get, after]

/-- A legal plain job, before its `START`. -/
def plainJob : State := pending 1 2 2 rgb565 canonFmt [0x00, 0xF8, 0xE0, 0x07, 0x1F, 0x00, 0x2C, 0x63]

/-- A legal indexed job, before its `START`. -/
def paletteJob : State :=
  { indexedJob .idle 16 with
    status := .idle
    written := [.width, .height, .inFmt, .inEnd, .inLen, .palFmt, .palEnd, .palLen 0]
    cmd := some 1 }

/-- A pending job after its `START` and some stages. -/
def jobAt (n : Nat) (s : State) : State := after (andThen (exec .start s.takeCmd) (runStages n))

/-- The plain job after its `START` and some stages. -/
def plainAt (n : Nat) : State := jobAt n plainJob

/-- The plain job at its end. -/
def plainDone : State := after (step plainJob)

/-- A job that ends in `ERROR`: its width is one too large. -/
def wideJob : State := pending 1 16384 1 rgb565 canonFmt []

/-- That job at its end. -/
def wideDone : State := after (step wideJob)

theorem witness_DecodeOfEncode :
    (Instr.chdecRgba ⟨.b64, 16, 16, 16, 16, .max⟩).wf = true ∧ (Instr.chencXrgb ⟨.b4, 1, 1, 1, 0, .zero⟩).wf = true ∧
      (Instr.blkDxt1 .switch).wf = true ∧ (Instr.blkPvrt4 .linear).wf = true ∧ (Instr.idx .b8).wf = true := by decide

theorem witness_ReservedWordsRefused :
    descReserved (1 <<< 40) ≠ 0 ∧ descReserved (1 <<< 63) ≠ 0 ∧ 18 < descSpecial (19 <<< 28) ∧
      4 < descReorder (5 <<< 34) ∧ 1 < descFilter (2 <<< 37) ∧ (descSpecial 0 = 0 ∧ descCh 0 = 0) ∧
      (descSpecial (15 <<< 3) = 0 ∧ 14 < descCh (15 <<< 3)) := by decide

/-- The third clause: both reserved bpp-classes and each width field at 17 or 31, in words that decode. -/
theorem witness_ReservedWordsRefused_ill_formed :
    ∀ n ∈ [0x8, 0xF, 17 <<< 8 ||| 0xD, 31 <<< 13 ||| 0xD, 17 <<< 18 ||| 0xD, 31 <<< 23 ||| 0xD],
      let d := BitVec.ofNat 64 n
      descSpecial d = 0 ∧
      (descBpp d = 0 ∨ descBpp d = 7 ∨
        (descCh d ≠ 14 ∧ (16 < descRbits d ∨ 16 < descGbits d ∨ 16 < descBbits d ∨ 16 < descAbits d))) ∧
      (decode .inOp d).toOption.isSome = true ∧ (decode .outPack d).toOption.isSome = true := by decide +kernel

theorem witness_StepRunsDecodedInstruction :
    ((plainAt 0).status = .busy ∧ (plainAt 0).stage = .validate) ∧
    ((plainAt 1).status = .busy ∧ (plainAt 1).stage = .decode ∧
      decode .inOp (plainAt 1).inFmt = .ok (.chdecRgb ⟨.b16, 5, 6, 5, 0, .max⟩)) ∧
    ((plainAt 2).status = .busy ∧ (plainAt 2).stage = .reorder ∧ decode .inReorder (plainAt 2).inFmt = .ok .reordLinear) ∧
    ((plainAt 3).status = .busy ∧ (plainAt 3).stage = .filter ∧ decode .outFilter (plainAt 3).outFmt = .ok .filtNone) ∧
    ((plainAt 4).status = .busy ∧ (plainAt 4).stage = .pack ∧ (plainAt 4).isIndexed = false ∧
      decode .outPack (plainAt 4).outFmt = .ok (.chencArgb ⟨.b32, 8, 8, 8, 8, .max⟩)) ∧
    (plainJob.status ≠ .busy ∧ plainJob.cmd = some 1 ∧ decode .cmd ((1 : Code2).setWidth 64) = .ok .start) ∧
    (plainDone.status ≠ .busy ∧ decode .cmd ((2 : Code2).setWidth 64) = .ok .clear) ∧
    (State.reset.status ≠ .busy ∧ State.reset.cmd = none) := by decide +kernel

theorem plainJob_inv : plainJob.Inv := by unfold State.Inv; decide +kernel

theorem witness_StepKeepsInvariant :
    (plainJob.Inv ∧ step plainJob = .next plainDone) ∧ ((plainAt 4).Inv ∧ step (plainAt 4) = .next (after (step (plainAt 4)))) :=
  ⟨⟨plainJob_inv, next_after (by decide +kernel)⟩, by unfold State.Inv; decide +kernel, next_after (by decide +kernel)⟩

theorem reset_inv : State.reset.Inv := by unfold State.Inv; decide +kernel

theorem witness_HostAccessKeepsInvariant :
    State.reset.Inv ∧ ({ plainJob with cmd := none }.Inv) ∧
      (∀ r ∈ [JobReg.width, .inFmt, .palLen 0, .palLen 15],
        hostWriteReg r (BitVec.allOnes 64) State.reset = .next (after (hostWriteReg r (BitVec.allOnes 64) State.reset))) ∧
      hostCommand 1 { plainJob with cmd := none } = .next (after (hostCommand 1 { plainJob with cmd := none })) ∧
      (∀ a ∈ [0, 2 ^ 32 - 1], hostPutIn a 7 State.reset = .next (after (hostPutIn a 7 State.reset))) ∧
      (∀ k ∈ [0, 15], ∀ a ∈ [0, 2 ^ 32 - 1], hostPutPal k a 7 State.reset = .next (after (hostPutPal k a 7 State.reset))) ∧
      (∀ a ∈ [0, 2 ^ 32 - 1], hostPutOut a 7 State.reset = .next (after (hostPutOut a 7 State.reset))) ∧
      (∀ k ∈ [0, 15], ∀ a ∈ [0, 2 ^ 32 - 1], hostPutTbl k a 7 State.reset = .next (after (hostPutTbl k a 7 State.reset))) := by
  refine ⟨reset_inv, by unfold State.Inv; decide +kernel, fun r hr => next_after ?_, next_after (by decide +kernel), fun a ha => next_after ?_,
    fun k hk a ha => next_after ?_, fun a ha => next_after ?_, fun k hk a ha => next_after ?_⟩
  · revert r; decide +kernel
  · revert a; decide +kernel
  · revert k a; decide +kernel
  · revert a; decide +kernel
  · revert k a; decide +kernel

theorem witness_StepKeepsJobRegisters : step plainJob = .next plainDone ∧ step (plainAt 4) = .next (plainAt 5) :=
  ⟨next_after (by decide +kernel), next_after (by decide +kernel)⟩

/-- A failing job, a stage in the middle of a job, and a `CLEAR`. -/
theorem witness_OutputsChangeOnlyAtDone :
    (step wideJob = .next wideDone ∧ (wideDone.status = .done → wideJob.status = .done)) ∧
    (step (plainAt 2) = .next (after (step (plainAt 2))) ∧
      ((after (step (plainAt 2))).status = .done → (plainAt 2).status = .done)) ∧
    step { plainDone with cmd := some 2 } = .next (after (step { plainDone with cmd := some 2 })) ∧
      ((after (step { plainDone with cmd := some 2 })).status = .done → plainDone.status = .done) :=
  ⟨⟨next_after (by decide +kernel), by decide +kernel⟩, ⟨next_after (by decide +kernel), by decide +kernel⟩,
    next_after (by decide +kernel), by decide +kernel⟩

theorem witness_StatusTransitions :
    (step plainJob = .next plainDone ∧ plainJob.status = .idle ∧ plainDone.status ≠ .idle) ∧
    (step { plainDone with cmd := some 2 } = .next (after (step { plainDone with cmd := some 2 })) ∧
      plainDone.status = .done ∧ (after (step { plainDone with cmd := some 2 })).status ≠ .done) ∧
    (step (plainAt 4) = .next (plainAt 5) ∧ (plainAt 4).status = .busy) :=
  ⟨⟨next_after (by decide +kernel), by decide +kernel⟩, ⟨next_after (by decide +kernel), by decide +kernel⟩,
    next_after (by decide +kernel), by decide +kernel⟩

theorem witness_StatusTransitions_error :
    let s := { wideDone with cmd := some 2 }
    step s = .next (after (step s)) ∧ s.status = .error ∧ (after (step s)).status ≠ .error :=
  ⟨next_after (by decide +kernel), by decide +kernel⟩

theorem witness_EveryJobEnds :
    (plainJob.status = .idle ∧ plainJob.cmd = some 1) ∧ (wideJob.status = .idle ∧ wideJob.cmd = some 1) ∧
    (paletteJob.status = .idle ∧ paletteJob.cmd = some 1) := by decide +kernel

theorem witness_FailedJobLeavesNoTrace :
    wideJob.status = .idle ∧ wideJob.cmd = some 1 ∧ step wideJob = .next wideDone ∧ wideDone.status = .error :=
  ⟨rfl, rfl, next_after (by decide +kernel), by decide +kernel⟩

theorem witness_JobIsAFunction :
    let u := { plainJob with out := bytesAt [9], outLen := 1, inBuf := plainJob.inBuf.write 8 5 }
    plainJob.Inv ∧ u.Inv ∧ plainJob.status = .idle ∧ u.status = .idle ∧ plainJob.cmd = some 1 ∧ u.cmd = some 1 ∧
      plainJob.sameJobInputs u ∧ step plainJob = .next plainDone ∧ step u = .next (after (step u)) ∧
      plainDone.status = .done ∧ 15 < plainDone.outLen.toNat :=
  ⟨plainJob_inv, by unfold State.Inv; decide +kernel, rfl, rfl, rfl, rfl, by unfold State.sameJobInputs; decide +kernel,
    next_after (by decide +kernel), next_after (by decide +kernel), by decide +kernel⟩

theorem witness_JobIsAFunction_indexed :
    let t := after (step paletteJob)
    paletteJob.Inv ∧ paletteJob.status = .idle ∧ paletteJob.cmd = some 1 ∧ paletteJob.sameJobInputs paletteJob ∧
      step paletteJob = .next t ∧ t.status = .done ∧ paletteJob.isIndexed = true ∧ 31 < (t.tblLen.getD 0 0).toNat :=
  ⟨by unfold State.Inv; decide +kernel, rfl, rfl, by unfold State.sameJobInputs; decide +kernel,
    next_after (by decide +kernel), by decide +kernel⟩

/-- An indexed job whose last palette length is unwritten. -/
def unwrittenPalette : State := { paletteJob with palCount := 2, cmd := none }

/-- The four clauses, each for a plain and an indexed job or for each status. -/
theorem witness_StartBeginsJob :
    (plainJob.status = .idle ∧ { plainJob with cmd := none }.cmd = none ∧ plainJob.isIndexed = false ∧
      ∀ r ∈ [JobReg.width, .height, .inFmt, .inEnd, .inLen], r ∈ plainJob.written) ∧
    (paletteJob.status = .idle ∧ { paletteJob with cmd := none }.cmd = none ∧ paletteJob.palCount = 1 ∧ (∀ r ∈ [JobReg.width, .height, .inFmt, .inEnd, .inLen, .palFmt, .palEnd, .palLen 0], r ∈ paletteJob.written)) ∧
    (State.reset.status = .idle ∧ State.reset.cmd = none ∧ JobReg.inEnd ∉ State.reset.written) ∧
    (unwrittenPalette.cmd = none ∧ unwrittenPalette.status = .idle ∧ unwrittenPalette.isIndexed = true ∧ 1 < unwrittenPalette.palCount.toNat ∧
      1 < unwrittenPalette.cfg.palMax ∧ JobReg.palLen 1 ∉ unwrittenPalette.written) ∧
    plainDone.status ≠ .idle ∧ (plainAt 2).status ≠ .idle ∧ wideDone.status ≠ .idle := by decide +kernel

theorem witness_ClearReturnsToIdle :
    plainDone.status = .done ∧ wideDone.status = .error ∧ plainJob.status = .idle ∧ (plainAt 2).status = .busy := by
  decide +kernel

theorem witness_OtherCommandsIgnored :
    ((plainDone.status ≠ .busy ∧ { plainDone with cmd := some 0 }.cmd = some 0) ∧
      { plainDone with cmd := some 3 }.cmd = some 3) ∧
    (plainDone.status ≠ .busy ∧ plainDone.cmd = none ∧ plainDone.status ≠ .idle) ∧ (plainAt 2).status = .busy ∧
    (State.reset.status = .idle ∧ State.reset.cmd = none ∧ (2 : Code2) ≠ 1) := by decide +kernel

theorem witness_ResetAlwaysTheSame : (plainAt 2).cfg = State.reset.cfg := by decide +kernel

/-! ### `VALIDATE` -/

theorem rgb565_legal : wordLegal rgb565 := by
  refine ⟨by decide, by decide, by decide, by decide, fun _ => ?_⟩
  refine ⟨by decide, by decide, by decide, by decide, by decide, by decide, by decide, by decide, by decide, ?_⟩
  intro lay h
  cases lay <;> first | exact absurd h (by decide) | decide

theorem canonFmt_legal : wordLegal canonFmt := by
  refine ⟨by decide, by decide, by decide, by decide, fun _ => ?_⟩
  refine ⟨by decide, by decide, by decide, by decide, by decide, by decide, by decide, by decide, by decide, ?_⟩
  intro lay h
  cases lay <;> first | exact absurd h (by decide) | decide

theorem rgba5551_legal : wordLegal 0x000000000094a513 := by
  refine ⟨by decide, by decide, by decide, by decide, fun _ => ?_⟩
  refine ⟨by decide, by decide, by decide, by decide, by decide, by decide, by decide, by decide, by decide, ?_⟩
  intro lay h
  cases lay <;> first | exact absurd h (by decide) | decide

/-- An `RGB565` job in `S_VALIDATE` with the given sides and `IN_LEN`. -/
def sized (w h len : Word32) : State := { inJob .validate 0 0 rgb565 canonFmt [] with width := w, height := h, inLen := len }

theorem sized_supported (w h len : Word32) : (sized w h len).inputSupported := by
  have hs : (sized w h len).special = none := by
    show specialOf (descSpecial rgb565) = none
    decide
  intro ro hro
  have hr : reorderOf (descReorder rgb565) = some ro := hro
  refine ⟨fun k hk => absurd (hs.symm.trans hk) (by simp), fun _ => ?_⟩
  cases ro <;> trivial

theorem sized_legal (w h len : Word32) (hg : (sized w h len).geometryLegal)
    (hl : (sized w h len).area ≠ 0 → (sized w h len).needed ≤ len.toNat) : (sized w h len).legalJob := by
  have e : (0 : Code2).toNat < 2 := by decide
  have i : ¬ (descSpecial rgb565 == 0 && descCh rgb565 == 14) = true := by decide
  have d : descSpecial canonFmt = 0 ∧ descReorder canonFmt = 0 ∧ descCh canonFmt ≠ 14 := by decide
  exact ⟨hg, rgb565_legal, canonFmt_legal, e, e, fun hx => absurd hx i, d.1, d.2.1, d.2.2, sized_supported w h len, hl⟩

theorem witness_ValidatePassesLegalJobs :
    ((sized 16383 1 32766).legalJob ∧ (sized 16383 1 32766).area ≠ 0) ∧
    ((sized 0 16383 0).legalJob ∧ (sized 0 16383 0).area = 0) ∧ ¬ (sized 16384 1 32768).legalJob := by
  refine ⟨⟨sized_legal _ _ _ ?_ ?_, by decide +kernel⟩, ⟨sized_legal _ _ _ ?_ ?_, by decide +kernel⟩, fun h => ?_⟩
  · unfold State.geometryLegal; decide +kernel
  · decide +kernel
  · unfold State.geometryLegal; decide +kernel
  · decide +kernel
  · exact absurd h.1 (by unfold State.geometryLegal; decide +kernel)

/-- The first failing check of `VALIDATE`, with the error it reports, where `VALIDATE` reports the same. -/
def reported (s : State) : Option (ErrCode × Nat) :=
  match s.checks.find? Check.fails with
  | none => none
  | some k =>
    if endOf (exec .validate s) = some (.error, k.error, BitVec.ofNat 32 k.info) then some (k.error, k.info) else none

/-- A descriptor word that fails each word check first, with the sub-cause of 41_descriptor_validator.md rules R139 to
R146. -/
def badWords : List (DescWord × Nat) :=
  [(rgb565 ||| 1 <<< 40, 2), (rgb565 ||| 1 <<< 63, 2), (19 <<< 28, 3), (63 <<< 28, 3), (rgb565 ||| 5 <<< 34, 4),
   (rgb565 ||| 2 <<< 37, 5), (0x8, 7), (0xF, 7), (0x5, 8), (15 <<< 3 ||| 5, 8), (17 <<< 8 ||| 0xD, 9),
   (31 <<< 23 ||| 0xD, 9), (0x73, 10), (0x14050D, 11), (0xC630A, 12)]

/-- The first clause of the statement: a state for every check of a word, of `IN_FMT`, `OUT_FMT` and `PAL_FMT`. -/
theorem witness_ValidateReportsFirstError_words :
    (∀ p ∈ badWords, reported { sized 2 2 8 with inFmt := p.1 } = some (.validation, p.2 + 0x100)) ∧
    (∀ p ∈ badWords, reported { sized 2 2 8 with outFmt := p.1 } = some (.validation, p.2 + 0x200)) ∧
    (∀ p ∈ badWords, reported { indexedJob .validate 16 with palFmt := p.1 } = some (.validation, p.2 + 0x300)) := by
  decide +kernel

/-- The sides, the byte orders, the shape of the palettes and the length. -/
theorem witness_ValidateReportsFirstError_registers :
    reported (sized 0xFFFFFFFF 2 8) = some (.validation, 1) ∧ reported (sized 2 16384 8) = some (.validation, 1) ∧
    reported { sized 2 2 8 with inEnd := 2 } = some (.validation, 0x106) ∧
    reported { sized 2 2 8 with outEnd := 3 } = some (.validation, 0x206) ∧
    reported { indexedJob .validate 16 with palEnd := 2 } = some (.validation, 0x306) ∧
    reported { indexedJob .validate 16 with palCount := 0 } = some (.validation, 0x30D) ∧
    reported { indexedJob .validate 16 with palCount := 17 } = some (.validation, 0x30D) ∧
    reported { indexedJob .validate 16 with palFmt := 0x30000000 } = some (.validation, 0x30D) ∧
    reported { indexedJob .validate 16 with palFmt := 0x72 } = some (.validation, 0x30D) ∧
    reported { indexedJob .validate 16 with palFmt := 0x451 } = some (.validation, 0x30D) ∧
    reported (sized 2 2 7) = some (.truncated, 8) ∧ reported (sized 16383 16383 0) = some (.truncated, 536805378) := by
  decide +kernel

/-- The twelve rows of unsupported formats (41_descriptor_validator.md rule R151), and the second clause: a job that
passes, with pixels and without. -/
theorem witness_ValidateReportsFirstError_unsupported :
    let job := fun (i : DescWord) w h => { sized w h 65535 with inFmt := i }
    let free := fun (i : DescWord) w h => { job i w h with
      cfg := { Config.default with implReorderPsp := true, implReorderSwitch := true } }
    reported { sized 2 2 8 with outFmt := 0x30000000 } = some (.unsupported, 1) ∧
    reported { sized 2 2 8 with outFmt := rgb565 ||| 1 <<< 34 } = some (.unsupported, 2) ∧
    reported { sized 2 2 8 with outFmt := 0x72 } = some (.unsupported, 3) ∧
    reported (job (rgb565 ||| 3 <<< 34) 8 8) = some (.unsupported, 4) ∧
    reported (job (rgb565 ||| 4 <<< 34) 8 8) = some (.unsupported, 5) ∧
    reported (job 0x430000000 8 8) = some (.unsupported, 6) ∧
    reported (job 0x920000000 4 4) = some (.unsupported, 7) ∧
    reported (free 0xC0021080C 8 8) = some (.unsupported, 8) ∧ reported (free 0x1000000451 8 8) = some (.unsupported, 8) ∧
    reported (job (rgb565 ||| 1 <<< 34) 8 12) = some (.unsupported, 9) ∧
    reported (free (rgb565 ||| 3 <<< 34) 12 8) = some (.unsupported, 10) ∧
    reported (free (rgb565 ||| 4 <<< 34) 8 8) = some (.unsupported, 11) ∧
    reported (job 0x110000000 8 12) = some (.unsupported, 12) ∧ reported (job 0x120000000 4 0) = none ∧
    ((sized 2 2 8).checks.find? Check.fails = none ∧ (sized 2 2 8).area ≠ 0) ∧
    ((sized 0 16383 0).checks.find? Check.fails = none ∧ (sized 0 16383 0).area = 0) := by
  decide +kernel

/-! ### The channel codec and the indexed path -/

theorem witness_ResampleProperties :
    ((1 ≤ 1 ∧ 1 ≤ 16) ∧ (1 ≤ 16 ∧ 16 ≤ 16) ∧ 65535 < 2 ^ 16 ∧ 65534 ≤ 65535) ∧ (1 ≤ 8 ∧ 8 ≤ 8 ∧ 255 < 2 ^ 8) ∧
      (9 ≤ 9 ∧ 9 ≤ 16) ∧ (9 ≤ 16 ∧ 16 ≤ 16) := by decide

theorem witness_ChdecCompletes :
    (⟨.b16, 5, 6, 5, 0, .max⟩ : PlainFmt).wf .rgb = true ∧ endianOf (plainAt 1).inEnd = some .little ∧
      sampleBytes (plainAt 1).area 16 ≤ (plainAt 1).inLen.toNat := by decide +kernel

theorem witness_ChencCompletes :
    (⟨.b32, 8, 8, 8, 8, .max⟩ : PlainFmt).wf .argb = true ∧ endianOf (plainAt 4).outEnd = some .little ∧
      (plainAt 4).out.wf = true := by decide +kernel

theorem witness_LayoutsPackTheirChannels : Config.default.tables = none := rfl

theorem witness_SampleRoundTrip :
    Config.default.tables = none ∧
    ((⟨.b32, 8, 8, 8, 8, .max⟩ : PlainFmt).wf .xrgb = true ∧
      (∀ c ∈ Layout.xrgb.channels, c ≠ .x → (⟨.b32, 8, 8, 8, 8, .max⟩ : PlainFmt).width c ≤ 8) ∧
      0xFF112233 < 2 ^ (Layout.xrgb.channels.map (⟨.b32, 8, 8, 8, 8, .max⟩ : PlainFmt).width).sum ∧
      (∀ g ∈ bitGroups 0xFF112233 (channelWidths .xrgb ⟨.b32, 8, 8, 8, 8, .max⟩), g.1 = .x → g.2 = 2 ^ 8 - 1)) ∧
    ((⟨.b16, 1, 1, 1, 0, .zero⟩ : PlainFmt).wf .rgbx = true ∧
      (∀ g ∈ bitGroups 7 (channelWidths .rgbx ⟨.b16, 1, 1, 1, 0, .zero⟩), g.1 = .x → g.2 = 0)) := by decide +kernel

theorem witness_WrittenSamplesReadBack :
    (Bpp.b4.legal = true ∧ ∀ r ∈ [0, 15, 3], r < 2 ^ Bpp.b4.bits) ∧
      (Bpp.b64.legal = true ∧ ∀ r ∈ [2 ^ 64 - 1], r < 2 ^ Bpp.b64.bits) := by decide

theorem indexedJob_palette (g : Stage) (len : Word32) : (indexedJob g len).paletteLegal := by
  have e : (0 : Code2).toNat < 2 := by decide
  have n : 1 ≤ (1 : BitVec 8).toNat ∧ (1 : BitVec 8).toNat ≤ 16 := by decide
  have f : descSpecial 0x000000000094a513 = 0 ∧ descCh 0x000000000094a513 ≠ 14 ∧ descBpp 0x000000000094a513 ≠ 1 := by
    decide
  exact ⟨rgba5551_legal, e, n.1, n.2, f.1, f.2.1, f.2.2⟩

theorem witness_IdxCompletes :
    let s := indexedJob .decode 16
    Bpp.b4.indexable = true ∧ endianOf s.inEnd = some .little ∧ endianOf s.palEnd = some .little ∧ s.paletteLegal ∧
      chOf (descCh s.palFmt) = some (.plain .rgba) ∧ sampleBytes s.area 4 ≤ s.inLen.toNat ∧
      (∀ k, k < s.palCount.toNat → ∀ i, i < s.area → readSample s.cfg s.inBuf i 4 .little < s.entries 4 k) :=
  ⟨by decide, by decide, by decide, indexedJob_palette _ _, by decide, by decide +kernel, by decide +kernel⟩

theorem witness_IdxRaisesPaletteRange :
    let s := indexedJob .decode 14
    Bpp.b4.indexable = true ∧ endianOf s.inEnd = some .little ∧ s.paletteLegal ∧ sampleBytes s.area 4 ≤ s.inLen.toNat ∧
      (7 < s.area ∧ readSample s.cfg s.inBuf 7 4 .little = 7) ∧
      (∀ i, i < s.area → readSample s.cfg s.inBuf i 4 .little ≤ 7) ∧ 0 < s.palCount.toNat ∧ s.entries 4 0 ≤ 7 ∧
      (∀ j, j < 0 → 7 < s.entries 4 j) :=
  ⟨by decide, by decide, indexedJob_palette _ _, by decide +kernel, by decide +kernel, by decide +kernel, by decide +kernel,
    by decide +kernel, by decide⟩

/-- The job has one table, so the table numbers 1 to 15 are those of the last clauses. -/
theorem witness_IndexedPackWritesTables :
    let s := jobAt 4 paletteJob
    s.status = .busy ∧ s.stage = .pack ∧ s.isIndexed = true ∧ endianOf s.outEnd = some .little ∧ s.buffersWf = true ∧
      0 < s.cfg.palMax ∧ (s.tables[0]?).isSome = true ∧ s.tables.length ≤ 1 ∧ s.tables.length ≤ 15 ∧ 15 < s.cfg.palMax := by
  decide +kernel

/-! ### Block codecs -/

/-- The parameters with both optional swizzles. -/
def swizzling : Config := { Config.default with implReorderPsp := true, implReorderSwitch := true }

theorem witness_BlkCompletes :
    isPvrt .dxt1 = false ∧ isPvrt .bptcsf = false ∧ blocksLegal Config.default .dxt1 .linear 5 5 ∧
      blocksLegal Config.default .etc1a4 .morton 16383 1 ∧ blocksLegal swizzling .dxt1 .psp 8 32 ∧
      blocksLegal swizzling .dxt1 .switch 32 32 ∧ 0 < blocksX .dxt1 5 * blocksY .dxt1 5 ∧
      specialBytes .dxt1 5 5 ≤ (inJob .decode 5 5 0x30000000 canonFmt (List.replicate 32 0)).inLen.toNat := by
  refine ⟨rfl, rfl, ?_, ?_, ?_, ?_, by decide +kernel, by decide +kernel⟩ <;> unfold blocksLegal reorderable <;>
    decide +kernel

/-- Both clauses: under `morton` a block grid of 5 by 3 has places that no block reaches, and block 1 lands at 5. -/
theorem witness_BlkScattersTiles :
    let s := { inJob .decode 20 12 0x0000000830000000 canonFmt [] with inLen := 120 }
    isPvrt .dxt1 = false ∧ blocksLegal s.cfg .dxt1 .morton s.w s.h ∧ specialBytes .dxt1 s.w s.h ≤ s.inLen.toNat ∧
      exec (.blkDxt1 .morton) s = .next (after (exec (.blkDxt1 .morton) s)) ∧ 3 < s.w ∧ 0 < s.h ∧
      (∃ n, n < 15 ∧ reordMap Config.default .morton n 5 3 64 = some 0 ∧ ∀ m, m < 15 → n < m → reordMap Config.default .morton m 5 3 64 ≠ some 0) ∧
      (∀ n, n < 15 → reordMap Config.default .morton n 5 3 64 ≠ some 3) := by
  refine ⟨rfl, ?_, by decide +kernel, next_after (by decide +kernel), by decide +kernel, by decide +kernel, ?_, ?_⟩
  · unfold blocksLegal reorderable; decide +kernel
  · exact ⟨3, by decide +kernel⟩
  · decide +kernel

theorem witness_PvrtCompletes :
    (blocksLegal Config.default .pvrt4 .linear 4 8 ∧ blocksLegal Config.default .pvrt2 .linear 8 4) ∧
      specialBytes .pvrt4 4 8 ≤ 16 ∧ specialBytes .pvrt2 8 4 ≤ 8 := by
  unfold blocksLegal reorderable
  decide +kernel

theorem witness_StagesRaiseValidateErrors :
    (⟨.b8, 3, 3, 3, 0, .max⟩ : PlainFmt).wf .rgb = false ∧ (⟨.b8, 3, 3, 2, 0, .max⟩ : PlainFmt).wf .rgb = true ∧
      endianOf 2 = none ∧ endianOf 3 = none ∧ (7 < sampleBytes 4 16) ∧ ¬ blocksLegal Config.default .dxt1 .tile3ds 8 8 ∧
      (blocksLegal Config.default .dxt1 .linear 4 4 ∧ 7 < specialBytes .dxt1 4 4) ∧
      (descSpecial 0x852 = 0 ∧ ¬ reorderable Config.default .tile3ds 7 8 8) := by
  unfold blocksLegal reorderable
  decide +kernel

/-- The clauses of PVRTC: the rules for any grid, the uniform grid, and the worked one. -/
theorem witness_PvrtcPixelsFollowTheRules :
    Config.default.tables = none ∧ isPow2 4 = true ∧ isPow2 2 = true ∧ (List.replicate 8 0xD16CD16CAAAAAAAA).length = 4 * 2 ∧
      ∀ v ∈ List.replicate 8 0xD16CD16CAAAAAAAA, a5 v = a5 0xD16CD16CAAAAAAAA ∧ b5 v = a5 0xD16CD16CAAAAAAAA := by
  decide +kernel

theorem witness_TwiddleIsABijection :
    isPow2 1 = true ∧ isPow2 4096 = true ∧ (0 < 1 ∧ 4095 < 4096) ∧ 2 ^ 0 = min 1 4096 ∧
      (isPow2 8 = true ∧ 2 ^ 3 = min 8 4096 ∧ 2 < 3 ∧ 7 < 8) ∧ 4095 < 1 * 4096 ∧
      twiddle 1 4096 0 7 = twiddle 1 4096 0 7 := by decide +kernel

/-- Both orders of the references, selector 3, and the ends of the bytes of DXT1-alt under both parameters. -/
theorem witness_DxtTexelsFollowTheRules :
    15 < 16 ∧ (bitsOf 0x1B1B1B1B001FF800 16 16 < bitsOf 0x1B1B1B1B001FF800 0 16) ∧
      (bitsOf 0xFFFFFFFFF800001F 0 16 ≤ bitsOf 0xFFFFFFFFF800001F 16 16 ∧ bitsOf 0xFFFFFFFFF800001F (32 + 2 * 15) 2 = 3) ∧
      bitsOf 0xFFFFFFFFF800F800 0 16 ≤ bitsOf 0xFFFFFFFFF800F800 16 16 ∧ 255 < 256 ∧ 2 ^ 32 - 1 < 2 ^ 32 ∧
      Config.default.dxt1AltByteswap = false ∧ { Config.default with dxt1AltByteswap := true }.dxt1AltByteswap = true := by
  decide +kernel

theorem witness_PspKindsArePositional :
    0x001FF800 < 2 ^ 32 ∧ 2 ^ 32 - 1 < 2 ^ 32 ∧ 2 ^ 64 - 1 < 2 ^ 64 ∧ 2 ^ 48 - 1 < 2 ^ 48 ∧ 0x40C0 < 2 ^ 16 := by decide

theorem witness_RampKindsFollowTheRampRule : Config.default.srgtcBias = 128 ∧ 0 < 16 ∧ 15 < 16 := by decide

theorem witness_Etc1TexelsFollowTheRules : 2 ^ 64 - 1 < 2 ^ 64 ∧ 0 < 8 ∧ 7 < 8 ∧ Config.default.tables = none := by decide

theorem witness_Bc7AnchorsHaveOneBitFewer :
    Config.default.tables = none ∧ ∀ m ∈ [0, 3, 7], ∃ k ∈ bc7Modes Config.default, (bc7Modes Config.default)[m]? = some k ∧ 2 ^ k.pb - 1 < 2 ^ k.pb ∧ k.ns - 1 < k.ns ∧
      ∃ t, t < 16 ∧ bc7Subset Config.default k.ns 1 t = k.ns - 1 ∧ t ≠ bc7Anchor Config.default k.ns 1 (k.ns - 1) := by
  have key : ∀ m ∈ [0, 3, 7], ∃ k ∈ bc7Modes Config.default, (bc7Modes Config.default)[m]? = some k ∧ 2 ^ k.pb - 1 < 2 ^ k.pb ∧ k.ns - 1 < k.ns ∧
      ((List.range 16).any fun t => bc7Subset Config.default k.ns 1 t == k.ns - 1 && t != bc7Anchor Config.default k.ns 1 (k.ns - 1)) = true := by
    decide +kernel
  refine ⟨rfl, fun m hm => ?_⟩
  obtain ⟨k, hk, hmk, h1, h2, h3⟩ := key m hm
  obtain ⟨t, ht, hp⟩ := List.any_eq_true.mp h3
  simp only [Bool.and_eq_true, beq_iff_eq, bne_iff_ne] at hp
  exact ⟨k, hk, hmk, h1, h2, t, List.mem_range.mp ht, hp⟩

theorem witness_Bc7FieldsFillTheBlock : 
    Config.default.tables = none ∧ ((bc7Modes Config.default)[0]?).isSome = true ∧
      ((bc7Modes Config.default)[7]?).isSome = true := by decide +kernel

/-- A zero first byte, and blocks of the first and the last mode. -/
theorem witness_Bc7TexelsFollowTheRules :
    0xABCDEF00 % 256 = 0 ∧ Config.default.tables = none ∧ 15 < 16 ∧
      (0 < 8 ∧ 0xFF % 2 ^ 1 = 2 ^ 0 ∧ ((bc7Modes Config.default)[0]?).isSome = true) ∧
      (7 < 8 ∧ 0xFF80 % 2 ^ 8 = 2 ^ 7 ∧ ((bc7Modes Config.default)[7]?).isSome = true) := by decide +kernel

/-- The reserved modes, and modes with a two-bit and a five-bit value, with two regions and with one. -/
theorem witness_BptcfTexelsFollowTheRules :
    Config.default.tables = none ∧ 0x13 % 32 = 19 ∧ 0x37 % 32 = 23 ∧ 0xFB % 32 = 27 ∧ 0xFFFF % 32 = 31 ∧ 15 < 16 ∧
      ∀ v ∈ [0xFC, 0xFD, 0xE3, 0xFE], ∃ k ∈ bptcfModes Config.default, k.value = (if v % 4 < 2 then v % 4 else v % 32) := by
  decide +kernel

/-- Mode 14 is the one with 16-bit endpoints, and its most negative endpoint gives the extreme magnitude. -/
theorem witness_BptcfHalvesStayInRange :
    Config.default.tables = none ∧ ∃ k ∈ bptcfModes Config.default, k.epb = 16 ∧ 2 < 3 := by decide +kernel

theorem witness_BptcfLayoutsCoverTheBlock :
    Config.default.tables = none ∧ (∃ k ∈ bptcfModes Config.default, k.regions = 2 ∧ (if k.value < 2 then 2 else 5) ≤ 76 ∧ 76 < 77) ∧
      ∃ k ∈ bptcfModes Config.default, k.regions = 1 ∧ (if k.value < 2 then 2 else 5) ≤ 5 ∧ 5 < 65 := by decide +kernel

theorem witness_TilesAreWhole : isPvrt .etc1 = false ∧ isPvrt .bptcsf = false := by decide

/-! ### Reordering and the filter -/

theorem witness_ReordLinearCompletes :
    Reorder.linear = .linear ∧ descSpecial (inJob .reorder 4 4 0x0000000830000000 canonFmt []).inFmt ≠ 0 := by decide +kernel

/-- The four kinds, a place that two elements reach and a place that none does. -/
theorem witness_ReordPlacesElements :
    (Reorder.morton ≠ .linear ∧ descSpecial (ramp 5 3 0x852).inFmt = 0 ∧ reorderable Config.default .morton 5 3 8 ∧
      (ramp 5 3 0x852).isIndexed = false) ∧
    reorderable Config.default .tile3ds 8 8 8 ∧ reorderable swizzling .psp 16 8 8 ∧ reorderable swizzling .switch 64 8 8 ∧
    (descSpecial (indexedJob .reorder 16).inFmt = 0 ∧ (indexedJob .reorder 16).isIndexed = true) ∧
    (∃ i, i < 15 ∧ reordMap Config.default .morton i 5 3 8 = some 0 ∧ ∀ j, j < 15 → i < j → reordMap Config.default .morton j 5 3 8 ≠ some 0) ∧
    (∀ i, i < 15 → reordMap Config.default .morton i 5 3 8 ≠ some 3) := by
  refine ⟨?_, ?_, ?_, ?_, ?_, ⟨3, by decide +kernel⟩, by decide +kernel⟩ <;> (try unfold reorderable) <;> decide +kernel

theorem witness_Tile3dsUntilesTheFixture :
    let picture := List.range 256
    let fixture := (List.range 256).map fun i => mapTile3ds Config.default i 16
    Config.default.tables = none ∧ picture.length = 256 ∧ fixture.length = 256 ∧ ∀ i, i < 256 → fixture[i]? = picture[mapTile3ds Config.default i 16]? := by decide +kernel

theorem witness_TileMapsAreBijections :
    Config.default.tables = none ∧ (16 % 8 = 0 ∧ 8 % 8 = 0 ∧ 127 < 16 * 8) ∧
      (128 % 8 = 0 ∧ 16 % (128 / 8) = 0) ∧ (128 % 4 = 0 ∧ 32 % (128 / 4) = 0) ∧ 128 % 128 = 0 := by decide

theorem witness_SwitchMapInvertsTheAddress :
    Config.default.tables = none ∧ (64 * (8 / 8) % 64 = 0 ∧ 8 % (8 * 1) = 0 ∧ 8 ≤ 8 ∧ 63 < 64 ∧ 7 < 8) ∧
      (4 * (128 / 8) % 64 = 0 ∧ 128 % (8 * 16) = 0 ∧ 64 < 128 ∧ 3 < 4 ∧ 127 < 128) := by decide

theorem witness_MortonMapIsABijection :
    (isPow2 (min 8 24) = true ∧ max 8 24 % min 8 24 = 0 ∧ 2 ^ 3 = min 8 24 ∧ 191 < 8 * 24 ∧
      mapMorton 191 8 24 = some 191) ∧
    (isPow2 (min 5 1) = true ∧ max 5 1 % min 5 1 = 0) ∧ 4 < 5 * 1 := by
  decide +kernel

/-- The first clause, at a side that is no power of two: the even and odd bits of element 14 are 2 and 3. -/
theorem witness_MortonMapIsABijection_formula :
    (∀ n, (2 : Nat).testBit n = (14 : Nat).testBit (2 * n)) ∧ (∀ n, (3 : Nat).testBit n = (14 : Nat).testBit (2 * n + 1)) ∧
      2 ^ 1 ≤ min 5 3 ∧ min 5 3 < 2 ^ (1 + 1) := by
  refine ⟨fun n => ?_, fun n => ?_, by decide, by decide⟩ <;>
    match n with
    | 0 => decide
    | 1 => decide
    | n + 2 =>
      rw [Nat.testBit_lt_two_pow, Nat.testBit_lt_two_pow]
      · exact lt_of_lt_of_le (by decide : (14 : Nat) < 2 ^ 4) (Nat.pow_le_pow_right (by decide) (by omega))
      · exact lt_of_lt_of_le (by decide : (_ : Nat) < 2 ^ 2) (Nat.pow_le_pow_right (by decide) (by omega))

theorem witness_FiltersComplete :
    (plainAt 3).cfg.tables = none ∧ (indexedJob .filter 16).isIndexed = true ∧ (plainAt 3).isIndexed = false ∧ 1 < (plainAt 3).w ∧
      ((plainAt 3).canon[1 * (plainAt 3).w + 1]?).isSome = true := by decide +kernel

theorem witness_DitherStaysInRange : (1 ≤ 7 ∧ 7 ≤ 7) ∧ (1 ≤ 64 ∧ 64 ≤ 64) ∧ 255 ≤ 255 := by decide

/-! ### The host's port -/

theorem witness_RegistersReadBack :
    State.reset.Inv ∧ hostWriteReg (.palLen 15) 5 State.reset = .next (after (hostWriteReg (.palLen 15) 5 State.reset)) ∧
      hostWriteReg .inEnd (BitVec.allOnes 64) State.reset = .next (after (hostWriteReg .inEnd (BitVec.allOnes 64) State.reset)) ∧
      JobReg.palLen 14 ≠ .palLen 15 :=
  ⟨reset_inv, next_after (by decide +kernel), next_after (by decide +kernel), by decide⟩

theorem witness_HostReadsOutputs :
    let s := after (step paletteJob)
    s.status ≠ .busy ∧ s.cmd = none ∧ 7 < s.outLen.toNat ∧ 0 < s.cfg.palMax ∧ 31 < (s.tblLen.getD 0 0).toNat ∧
      s.outLen.toNat ≤ 8 ∧ (plainAt 2).status = .busy ∧ plainJob.cmd ≠ none := by decide +kernel

/-- The ends of the addresses and of the arrays, bytes below the lengths, and the states that refuse. -/
theorem witness_BufferBytesArePlaced :
    let s := after (step paletteJob)
    State.reset.Inv ∧ State.reset.status ≠ .busy ∧ State.reset.cmd = none ∧ 0 < 2 ^ 32 ∧ 2 ^ 32 - 1 < 2 ^ 32 ∧
      15 < State.reset.cfg.palMax ∧
      (s.Inv ∧ s.status ≠ .busy ∧ s.cmd = none ∧ 7 < s.outLen.toNat ∧ 0 < s.cfg.palMax ∧ 31 < (s.tblLen.getD 0 0).toNat) ∧
      (plainAt 2).status = .busy ∧ plainJob.cmd ≠ none :=
  ⟨reset_inv, by decide +kernel, rfl, by decide, by decide, by decide +kernel,
    ⟨by unfold State.Inv; decide +kernel, by decide +kernel⟩, by decide +kernel⟩

end Sys2Proof.Tests
end

section
/-! SUPPORT. The invariant of the machine, clause by clause, and the named updates that keep it. -/

namespace Sys2Proof.Machine

/-! ## Arrays of buffers -/

@[simp] theorem writeTables_length (ms : List Memory) (bs : List (List Byte)) :
    (writeTables ms bs).length = ms.length := by
  induction ms generalizing bs with
  | nil => rfl
  | cons m ms ih => cases bs <;> simp [writeTables, ih]

@[simp] theorem tableLens_length (n : Nat) (bs : List (List Byte)) : (tableLens n bs).length = n := by
  induction n generalizing bs with
  | zero => rfl
  | succ n ih => cases bs <;> simp [tableLens, ih]

theorem writeTables_wf {ms : List Memory} (h : ms.all Memory.wf = true) (bs : List (List Byte)) :
    (writeTables ms bs).all Memory.wf = true := by
  induction ms generalizing bs with
  | nil => rfl
  | cons m ms ih =>
    cases bs with
    | nil => exact h
    | cons b bs =>
      rw [List.all_cons, Bool.and_eq_true] at h
      simp [writeTables, Memory.writeBytes_wf b h.1, ih h.2 bs]

/-- A buffer that does not exist reads as the empty one, so every buffer of a canonical array is canonical. -/
theorem getD_wf {ms : List Memory} (h : ms.all Memory.wf = true) (k : Nat) : (ms.getD k []).wf = true := by
  rw [List.getD_eq_getElem?_getD]
  cases hk : ms[k]? with
  | none => rfl
  | some m => exact List.all_eq_true.mp h m (List.mem_of_getElem? hk)

theorem putByte_wf {ms : List Memory} (h : ms.all Memory.wf = true) (k a : Nat) (v : Byte) :
    (putByte ms k a v).all Memory.wf = true := by
  rw [List.all_eq_true]
  intro m hm
  rcases List.mem_or_eq_of_mem_set hm with hm | rfl
  · exact List.all_eq_true.mp h m hm
  · exact Memory.write_wf (getD_wf h k)

/-! ## The clauses of the invariant -/

theorem State.buffersWf_iff (s : State) :
    s.buffersWf = true ↔
      s.inBuf.wf = true ∧ s.out.wf = true ∧ s.pal.all Memory.wf = true ∧ s.tbl.all Memory.wf = true ∧
        s.palLen.length = s.cfg.palMax ∧ s.tblLen.length = s.cfg.palMax ∧ s.pal.length = s.cfg.palMax ∧
        s.tbl.length = s.cfg.palMax := by
  simp only [State.buffersWf, Bool.and_eq_true, decide_eq_true_eq, and_assoc]

/-- The invariant of a state inside a job. -/
theorem State.inv_busy_iff {s : State} (hb : s.status = .busy) :
    s.Inv ↔ s.buffersWf = true ∧ (s.stage.running = true ∧ s.cmd = none) ∧ s.fault = none ∧
      (s.errCode = .none ∧ s.errInfo = 0) := by
  simp [State.Inv, State.sequencerWf, State.internalWf, State.errorWf, hb]

/-- The invariant of a state outside a job. -/
theorem State.inv_outside_iff {s : State} (hb : s.status ≠ .busy) :
    s.Inv ↔ s.buffersWf = true ∧ s.stage.running = false ∧ s.jobDiscarded ∧ s.errorWf = true := by
  have internal : s.internalWf = true ↔ s.jobDiscarded := by
    simp only [State.internalWf, State.jobDiscarded, hb, if_false, Bool.and_eq_true, decide_eq_true_eq,
      List.isEmpty_iff, Option.isNone_iff_eq_none]
    tauto
  simp [State.Inv, State.sequencerWf, hb, internal]

theorem State.errorWf_of_error {s : State} (h : s.status = .error) : s.errorWf = true ↔ s.errCode ≠ .none := by
  simp [State.errorWf, h]

theorem State.errorWf_of_not_error {s : State} (h : s.status ≠ .error) :
    s.errorWf = true ↔ s.errCode = .none ∧ s.errInfo = 0 := by
  cases hs : s.status <;> simp_all [State.errorWf]

/-! ## Reset -/

theorem State.resetOf_buffersWf (c : Config) : (State.resetOf c).buffersWf = true := by
  simp [State.buffersWf_iff, State.resetOf]

theorem State.resetOf_jobDiscarded (c : Config) : (State.resetOf c).jobDiscarded := ⟨rfl, rfl, rfl, rfl, rfl, rfl⟩

theorem State.resetOf_inv (c : Config) : (State.resetOf c).Inv :=
  (State.inv_outside_iff (by simp [State.resetOf])).mpr
    ⟨State.resetOf_buffersWf c, rfl, State.resetOf_jobDiscarded c, rfl⟩

/-! ## The operations of the sequencer -/

theorem State.takeCmd_inv {s : State} (hs : s.Inv) (hb : s.status ≠ .busy) : s.takeCmd.Inv := by
  obtain ⟨hbuf, hstage, hjob, herr⟩ := (State.inv_outside_iff hb).mp hs
  exact (State.inv_outside_iff (s := s.takeCmd) hb).mpr ⟨hbuf, hstage, hjob, herr⟩

/-- `START` in `IDLE`, after its command has been taken. -/
theorem State.beginJob_inv {s : State} (hs : s.Inv) (hi : s.status = .idle) (hc : s.cmd = none) : s.beginJob.Inv := by
  obtain ⟨hbuf, -, -, herr⟩ := (State.inv_outside_iff (by simp [hi])).mp hs
  obtain ⟨hcode, hinfo⟩ := (State.errorWf_of_not_error (by simp [hi])).mp herr
  exact (State.inv_busy_iff (State.beginJob_status s)).mpr ⟨hbuf, ⟨rfl, hc⟩, rfl, hcode, hinfo⟩

theorem State.clearStatus_inv {s : State} (hs : s.Inv) (hb : s.status ≠ .busy) : s.clearStatus.Inv := by
  obtain ⟨hbuf, hstage, hjob, -⟩ := (State.inv_outside_iff hb).mp hs
  exact (State.inv_outside_iff (by simp)).mpr ⟨hbuf, hstage, hjob, rfl⟩

theorem State.raise_inv {s : State} (hbuf : s.buffersWf = true) {e : ErrCode} (he : e ≠ .none) (v : Word32) :
    (s.raise e v).Inv :=
  (State.inv_outside_iff (by simp)).mpr
    ⟨hbuf, rfl, ⟨rfl, rfl, rfl, rfl, rfl, rfl⟩, (State.errorWf_of_error (State.raise_status s e v)).mpr he⟩

theorem State.finish_inv {s : State} (hbuf : s.buffersWf = true) : s.finish.Inv :=
  (State.inv_outside_iff (by simp)).mpr ⟨hbuf, rfl, ⟨rfl, rfl, rfl, rfl, rfl, rfl⟩, rfl⟩

theorem State.finishEmpty_inv {s : State} (hbuf : s.buffersWf = true) : s.finishEmpty.Inv := by
  refine (State.inv_outside_iff (by simp)).mpr ⟨?_, rfl, ⟨rfl, rfl, rfl, rfl, rfl, rfl⟩, rfl⟩
  simpa [State.buffersWf_iff] using (State.buffersWf_iff s).mp hbuf

theorem State.writeOut_buffersWf {s : State} (hbuf : s.buffersWf = true) (bs : List Byte) :
    (s.writeOut bs).buffersWf = true := by
  obtain ⟨hin, hout, hrest⟩ := (State.buffersWf_iff s).mp hbuf
  exact (State.buffersWf_iff _).mpr ⟨hin, Memory.writeBytes_wf bs hout, hrest⟩

theorem State.writeTbl_buffersWf {s : State} (hbuf : s.buffersWf = true) (bs : List (List Byte)) :
    (s.writeTbl bs).buffersWf = true := by
  obtain ⟨hin, hout, hpal, htbl, hpl, htl, hpn, htn⟩ := (State.buffersWf_iff s).mp hbuf
  exact (State.buffersWf_iff _).mpr
    ⟨hin, hout, hpal, writeTables_wf htbl bs, hpl, (tableLens_length _ bs).trans htl, hpn,
      (writeTables_length s.tbl bs).trans htn⟩

/-- A state still in the job that differs in `STAGE` and the internal job state only. -/
theorem State.midJob_inv {s t : State} (hs : s.Inv) (hb : s.status = .busy) (hm : s.midJob t)
    (hr : t.stage.running = true) : t.Inv := by
  obtain ⟨hbuf, ⟨-, hcmd⟩, hfault, hcode, hinfo⟩ := (State.inv_busy_iff hb).mp hs
  obtain ⟨hin, ⟨-, htl, hout, htbl⟩, ⟨hst, hec, hei⟩, hc, -, hf⟩ := hm
  obtain ⟨hcfg, -, -, -, -, -, -, -, -, -, -, hpl, hib, hpal, -⟩ := hin
  refine (State.inv_busy_iff (hst.trans hb)).mpr
    ⟨?_, ⟨hr, hc.trans hcmd⟩, hf.trans hfault, hec.trans hcode, hei.trans hinfo⟩
  rw [State.buffersWf_iff, hcfg, hpl, hib, hpal, htl, hout, htbl]
  exact (State.buffersWf_iff s).mp hbuf

end Sys2Proof.Machine
end

section
/-! SUPPORT. What a step can do, said once: outside a job a command by its code, inside a job one stage; and what every
move of an instruction keeps. -/

namespace Sys2Proof.Machine

/-! ## What every move keeps -/

theorem State.sameInputs_refl (s : State) : s.sameInputs s :=
  ⟨rfl, rfl, rfl, rfl, rfl, rfl, rfl, rfl, rfl, rfl, rfl, rfl, rfl, rfl, rfl⟩

theorem State.sameInputs_trans {s t u : State} (h : s.sameInputs t) (k : t.sameInputs u) : s.sameInputs u := by
  simp only [State.sameInputs] at h k ⊢
  simp only [k, h, and_self]

/-- No instruction writes a job register, an input buffer or a parameter (10_state.md rule R21, 20_memory.md rule R63). -/
theorem Moves.sameInputs {s t : State} (h : Moves s (.next t)) : s.sameInputs t := by
  cases h <;> simp [State.sameInputs]

/-- In a job every move of an instruction keeps the invariant. -/
theorem Moves.inv {s t : State} (hs : s.Inv) (hb : s.status = .busy) (h : Moves s (.next t)) : t.Inv := by
  obtain ⟨hbuf, ⟨hrun, -⟩, -⟩ := (State.inv_busy_iff hb).mp hs
  have keep : ∀ t : State, s.midJob t → t.stage.running = true → t.Inv := fun t => State.midJob_inv hs hb
  have mid : s.midJob s := ⟨State.sameInputs_refl s, ⟨rfl, rfl, rfl, rfl⟩, ⟨rfl, rfl, rfl⟩, rfl, rfl, rfl⟩
  cases h with
  | same => exact hs
  | begins hi => simp [hb] at hi
  | cleared he => simp [hb] at he
  | raises e v he => exact State.raise_inv hbuf he v
  | emptyJob => exact State.finishEmpty_inv hbuf
  | stage g hg => exact keep _ mid (by rcases hg with rfl | rfl | rfl <;> rfl)
  | decoded px n tl => exact keep _ mid rfl
  | decodedIdx ix tb n => exact keep _ mid rfl
  | canon px g hg => exact keep _ mid (by rcases hg with rfl | rfl | rfl <;> rfl)
  | idx ix => exact keep _ mid rfl
  | packs bs tb => exact State.finish_inv (State.writeTbl_buffersWf (State.writeOut_buffersWf hbuf bs) tb)

/-- A move in a job stays in it or ends it. -/
theorem Moves.busy_or_ended {s t : State} (hb : s.status = .busy) (h : Moves s (.next t)) :
    t.status = .busy ∨ t.ended := by
  cases h with
  | begins hi => simp [hb] at hi
  | cleared he => simp [hb] at he
  | raises e v he => exact .inr (.inr rfl)
  | emptyJob => exact .inr (.inl rfl)
  | packs bs tb => exact .inr (.inl rfl)
  | same | stage | decoded | decodedIdx | canon | idx => exact .inl hb

/-! ## Commands -/

theorem code2_cases (c : Code2) : c = 0 ∨ c = 1 ∨ c = 2 ∨ c = 3 := by revert c; decide

theorem decode_start : decode .cmd ((1 : Code2).setWidth 64) = .ok .start := rfl

theorem decode_clear : decode .cmd ((2 : Code2).setWidth 64) = .ok .clear := rfl

theorem runStages_outside {s : State} (hb : s.status ≠ .busy) (n : Nat) : runStages n s = .next s := by
  cases n <;> simp [runStages, hb]

theorem execStart_idle {s : State} (h : s.status = .idle) : execStart s = .next s.beginJob := if_pos h

theorem execStart_outside {s : State} (h : s.status ≠ .idle) : execStart s = .next s := if_neg h

theorem execClear_ended {s : State} (h : s.ended) : execClear s = .next s.clearStatus := if_pos h

theorem execClear_outside {s : State} (h : ¬ s.ended) : execClear s = .next s := if_neg h

theorem exec_start (s : State) : exec .start s = execStart s := rfl

theorem exec_clear (s : State) : exec .clear s = execClear s := rfl

theorem step_busy {s : State} (hb : s.status = .busy) : step s = stageStep s := by
  rcases step_cases s with ⟨-, h⟩ | ⟨h, -⟩ | ⟨h, -⟩
  · exact h
  · exact absurd hb h
  · exact absurd hb h

theorem step_no_command {s : State} (hb : s.status ≠ .busy) (hc : s.cmd = none) : step s = .next s := by
  simp only [step, fetch, hb, if_false, hc]

theorem step_of_decode {s : State} {c : Code2} {i : Instr} (hb : s.status ≠ .busy) (hc : s.cmd = some c)
    (hd : decode .cmd (c.setWidth 64) = .ok i) : step s = runCommand i s.takeCmd := by
  simp only [step, fetch, hb, if_false, hc, fetchCommand, hd]

/-- `START` in `IDLE` is the whole job (70_reset_and_hazards.md rule R456). -/
theorem step_start {s : State} (hi : s.status = .idle) (hc : s.cmd = some 1) :
    step s = runStages 5 s.takeCmd.beginJob := by
  rw [step_of_decode (by simp [hi]) hc decode_start, runCommand, exec_start, execStart_idle (by exact hi)]
  rfl

/-- `CLEAR` in `DONE` or `ERROR`. -/
theorem step_clear {s : State} (he : s.ended) (hc : s.cmd = some 2) : step s = .next s.takeCmd.clearStatus := by
  have hb : s.status ≠ .busy := by rcases he with h | h <;> simp [h]
  rw [step_of_decode hb hc decode_clear, runCommand, exec_clear, execClear_ended (s := s.takeCmd) he]
  exact runStages_outside (by simp) 5

/-- The codes that have no effect in a state outside a job (10_state.md rule R32, 30_encoding.md rule R89). -/
def State.ignores (s : State) (c : Code2) : Prop :=
  c = 0 ∨ c = 3 ∨ (c = 1 ∧ s.status ≠ .idle) ∨ (c = 2 ∧ s.status = .idle)

theorem step_ignored {s : State} {c : Code2} (hb : s.status ≠ .busy) (hc : s.cmd = some c) (hi : s.ignores c) :
    step s = .next s.takeCmd := by
  rcases hi with rfl | rfl | ⟨rfl, h⟩ | ⟨rfl, h⟩
  · simp only [step, fetch, hb, if_false, hc]; rfl
  · simp only [step, fetch, hb, if_false, hc]; rfl
  · rw [step_of_decode hb hc decode_start, runCommand, exec_start, execStart_outside (s := s.takeCmd) h]
    exact runStages_outside (s := s.takeCmd) hb 5
  · have he : ¬ s.takeCmd.ended := by simp [State.ended, h]
    rw [step_of_decode hb hc decode_clear, runCommand, exec_clear, execClear_outside he]
    exact runStages_outside (s := s.takeCmd) hb 5

/-- Everything a step can do outside a job. -/
theorem step_outside_cases {s : State} (hb : s.status ≠ .busy) :
    step s = .next s ∨ step s = .next s.takeCmd ∨
      (s.status = .idle ∧ s.cmd = some 1 ∧ step s = runStages 5 s.takeCmd.beginJob) ∨
      (s.ended ∧ s.cmd = some 2 ∧ step s = .next s.takeCmd.clearStatus) := by
  cases hc : s.cmd with
  | none => exact .inl (step_no_command hb hc)
  | some c =>
    refine .inr ?_
    by_cases hi : s.ignores c
    · exact .inl (step_ignored hb hc hi)
    · rcases code2_cases c with rfl | rfl | rfl | rfl
      · simp [State.ignores] at hi
      · have hidle : s.status = .idle := by simpa [State.ignores] using hi
        exact .inr (.inl ⟨hidle, rfl, step_start hidle hc⟩)
      · have he : s.ended := by cases hs : s.status <;> simp_all [State.ignores, State.ended]
        exact .inr (.inr ⟨he, rfl, step_clear he hc⟩)
      · simp [State.ignores] at hi

/-- What `START`, `CLEAR` and every stage in a job keep, every step keeps. -/
theorem step_induct {P : State → Prop} {s t : State} (hs : P s) (h : step s = .next t)
    (take : s.status ≠ .busy → P s.takeCmd) (start : s.status = .idle → P s.takeCmd.beginJob)
    (clear : s.ended → P s.takeCmd.clearStatus)
    (stage : ∀ u v, u.status = .busy → P u → Moves u (.next v) → P v) : P t := by
  have keep : ∀ u v, u.status = .busy → P u → stageStep u = .next v → P v := fun u v hb hu huv =>
    stage u v hb hu (huv ▸ stageStep_moves huv)
  by_cases hb : s.status = .busy
  · exact keep s t hb hs (step_busy hb ▸ h)
  · rcases step_outside_cases hb with e | e | ⟨hi, -, e⟩ | ⟨he, -, e⟩ <;> rw [e] at h
    · cases h; exact hs
    · cases h; exact take hb
    · exact runStages_induct keep 5 _ t (start hi) h
    · cases h; exact clear he

end Sys2Proof.Machine
end

section
/-! SUPPORT. The statements about every step: what it keeps. -/

namespace Sys2Proof.Machine

/-- Settles O5: `CLEAR`, `START` and each stage keep the invariant, so every step does. -/
theorem stepKeepsInvariant : Obligations.StepKeepsInvariant := by
  intro s t hs h
  refine step_induct (P := State.Inv) hs h (State.takeCmd_inv hs) ?_ ?_ fun u v hb hu => Moves.inv hu hb
  · intro hi
    exact State.beginJob_inv (State.takeCmd_inv hs (by simp [hi])) hi rfl
  · intro he
    have hb : s.status ≠ .busy := by rcases he with h | h <;> simp [h]
    exact State.clearStatus_inv (State.takeCmd_inv hs hb) hb

/-- Settles O8: nothing a step does writes what the engine only reads. -/
theorem stepKeepsJobRegisters : Obligations.StepKeepsJobRegisters := by
  intro s t h
  refine step_induct (P := s.sameInputs) (State.sameInputs_refl s) h ?take ?start ?clear
    fun u v _ hu huv => State.sameInputs_trans hu huv.sameInputs
  case take | start | clear => intro _; simp [State.sameInputs]

end Sys2Proof.Machine
end

section
/-! SUPPORT. What the host's accesses do between steps: the register file, the buffers, the boot requirements and the
write of `CMD`. -/

namespace Sys2Proof.Machine

/-! ## Job registers -/

/-- An access to a job register goes on exactly where the register exists. -/
theorem JobReg.guard_next {α : Type} {s : State} {r : JobReg} {a : Answer α} {x : α} :
    r.guard s a = .next x ↔ (∀ k, r.index = some k → k < s.cfg.palMax) ∧ a = .next x := by
  unfold JobReg.guard
  cases r.index with
  | none => simp
  | some k => simp [indexed_next]

/-- A register write that goes on: the engine is free, the register exists, and the register is put and marked. -/
theorem hostWriteReg_next {r : JobReg} {v : BitVec 64} {s t : State} :
    hostWriteReg r v s = .next t ↔
      (s.status ≠ .busy ∧ s.cmd = none) ∧ (∀ k, r.index = some k → k < s.cfg.palMax) ∧
        t = (s.putReg r v).markWritten r := by
  simp only [hostWriteReg, whileIdle_next, JobReg.guard_next, Host.Outcome.next.injEq, eq_comm (a := t)]

/-- What a register of `w` bits reads back of a 64-bit value. -/
theorem setWidth_setWidth_ofNat (v : BitVec 64) (w : Nat) :
    (v.setWidth w).setWidth 64 = BitVec.ofNat 64 (v.toNat % 2 ^ w) :=
  BitVec.eq_of_toNat_eq (by simp)

theorem State.getReg_putReg_same (s : State) (r : JobReg) (v : BitVec 64)
    (hr : ∀ k, r.index = some k → k < s.palLen.length) :
    (s.putReg r v).getReg r = BitVec.ofNat 64 (v.toNat % 2 ^ r.bits) := by
  have full : v = BitVec.ofNat 64 (v.toNat % 2 ^ 64) := by
    rw [Nat.mod_eq_of_lt v.isLt, BitVec.ofNat_toNat, BitVec.setWidth_eq]
  cases r with
  | inFmt | outFmt | palFmt => exact full
  | palLen k =>
    have hk : k < s.palLen.length := hr k rfl
    have hget : (s.palLen.set k (v.setWidth 32)).getD k 0 = v.setWidth 32 := by
      simp [List.getD_eq_getElem?_getD, hk]
    exact (congrArg (BitVec.setWidth 64) hget).trans (setWidth_setWidth_ofNat v _)
  | width | height | inLen | inEnd | outEnd | palEnd | palCount => exact setWidth_setWidth_ofNat v _

theorem State.getReg_putReg_ne (s : State) {r q : JobReg} (h : q ≠ r) (v : BitVec 64) :
    (s.putReg r v).getReg q = s.getReg q := by
  cases r with
  | palLen k =>
    cases q with
    | palLen j =>
      have hj : j ≠ k := fun e => h (e ▸ rfl)
      simp [State.getReg, State.putReg, List.getD_eq_getElem?_getD, List.getElem?_set_ne (Ne.symm hj)]
    | _ => rfl
  | _ => cases q <;> simp [State.getReg, State.putReg] at h ⊢

/-- What a register write leaves: everything but the job registers. -/
theorem State.putReg_frame (s : State) (r : JobReg) (v : BitVec 64) :
    s.sameOutputs (s.putReg r v) ∧ s.sameStatus (s.putReg r v) ∧ (s.putReg r v).inBuf = s.inBuf ∧
      (s.putReg r v).pal = s.pal ∧ (s.putReg r v).cmd = s.cmd ∧ (s.putReg r v).cfg = s.cfg := by
  cases r <;> exact ⟨⟨rfl, rfl, rfl, rfl⟩, ⟨rfl, rfl, rfl⟩, rfl, rfl, rfl, rfl⟩

@[simp] theorem State.putReg_palLen_length (s : State) (r : JobReg) (v : BitVec 64) :
    (s.putReg r v).palLen.length = s.palLen.length := by
  cases r with
  | palLen k => exact List.length_set
  | _ => rfl

theorem State.markWritten_contains (s : State) (r : JobReg) : (s.markWritten r).written.contains r = true := by
  simp only [State.markWritten]
  split
  · assumption
  · simp

/-! ## The invariant between steps -/

/-- Only the buffers and arrays changed. -/
theorem State.inv_of_buffersWf {s t : State} (hs : s.Inv) (hbuf : t.buffersWf = true)
    (hseq : t.sequencerWf = s.sequencerWf) (hint : t.internalWf = s.internalWf) (herr : t.errorWf = s.errorWf) :
    t.Inv := by
  obtain ⟨-, h2, h3, h4⟩ := hs
  exact ⟨hbuf, hseq.trans h2, hint.trans h3, herr.trans h4⟩

theorem State.putReg_inv {s : State} (hs : s.Inv) (r : JobReg) (v : BitVec 64) : (s.putReg r v).Inv := by
  have hbuf : (s.putReg r v).buffersWf = true := by
    obtain ⟨⟨-, htl, hout, htbl⟩, -, hin, hpal, -, hcfg⟩ := s.putReg_frame r v
    rw [State.buffersWf_iff, htl, hout, htbl, hin, hpal, hcfg, State.putReg_palLen_length]
    exact (State.buffersWf_iff s).mp hs.1
  cases r <;> exact State.inv_of_buffersWf hs hbuf rfl rfl rfl

theorem hostWriteReg_inv {s t : State} {r : JobReg} {v : BitVec 64} (hs : s.Inv) (h : hostWriteReg r v s = .next t) :
    t.Inv := by
  obtain ⟨-, -, rfl⟩ := hostWriteReg_next.mp h
  exact State.putReg_inv hs r v

theorem hostPutIn_inv {s t : State} {a : Nat} {v : Byte} (hs : s.Inv) (h : hostPutIn a v s = .next t) : t.Inv := by
  simp only [hostPutIn, whileIdle_next, addressed_next, Host.Outcome.next.injEq] at h
  obtain ⟨-, -, rfl⟩ := h
  obtain ⟨hin, hrest⟩ := (State.buffersWf_iff s).mp hs.1
  exact State.inv_of_buffersWf hs ((State.buffersWf_iff _).mpr ⟨Memory.write_wf hin, hrest⟩) rfl rfl rfl

theorem hostPutOut_inv {s t : State} {a : Nat} {v : Byte} (hs : s.Inv) (h : hostPutOut a v s = .next t) : t.Inv := by
  simp only [hostPutOut, whileIdle_next, addressed_next, Host.Outcome.next.injEq] at h
  obtain ⟨-, -, rfl⟩ := h
  obtain ⟨hin, hout, hrest⟩ := (State.buffersWf_iff s).mp hs.1
  exact State.inv_of_buffersWf hs ((State.buffersWf_iff _).mpr ⟨hin, Memory.write_wf hout, hrest⟩) rfl rfl rfl

theorem hostPutPal_inv {s t : State} {k a : Nat} {v : Byte} (hs : s.Inv) (h : hostPutPal k a v s = .next t) :
    t.Inv := by
  simp only [hostPutPal, whileIdle_next, indexed_next, addressed_next, Host.Outcome.next.injEq] at h
  obtain ⟨-, -, -, rfl⟩ := h
  obtain ⟨hin, hout, hpal, htbl, hpl, htl, hpn, htn⟩ := (State.buffersWf_iff s).mp hs.1
  refine State.inv_of_buffersWf hs ((State.buffersWf_iff _).mpr ?_) rfl rfl rfl
  exact ⟨hin, hout, putByte_wf hpal k a v, htbl, hpl, htl, (putByte_length ..).trans hpn, htn⟩

theorem hostPutTbl_inv {s t : State} {k a : Nat} {v : Byte} (hs : s.Inv) (h : hostPutTbl k a v s = .next t) :
    t.Inv := by
  simp only [hostPutTbl, whileIdle_next, indexed_next, addressed_next, Host.Outcome.next.injEq] at h
  obtain ⟨-, -, -, rfl⟩ := h
  obtain ⟨hin, hout, hpal, htbl, hpl, htl, hpn, htn⟩ := (State.buffersWf_iff s).mp hs.1
  refine State.inv_of_buffersWf hs ((State.buffersWf_iff _).mpr ?_) rfl rfl rfl
  exact ⟨hin, hout, hpal, putByte_wf htbl k a v, hpl, htl, hpn, (putByte_length ..).trans htn⟩

theorem hostReset_inv (s : State) : (hostReset s).Inv :=
  State.inv_of_buffersWf (State.resetOf_inv s.cfg) (State.resetOf_buffersWf s.cfg) rfl rfl rfl

/-! ## The boot requirements -/

theorem State.bootComplete_iff (s : State) : s.bootComplete = true ↔ ∀ r ∈ s.requiredRegs, r ∈ s.written := by
  simp [State.bootComplete]

theorem mem_paletteRegs {n : Nat} {r : JobReg} :
    r ∈ paletteRegs n ↔ r = .palFmt ∨ r = .palEnd ∨ ∃ k, k < n ∧ r = .palLen k := by
  simp [paletteRegs, eq_comm (b := r)]

/-- The registers without a default that the next job reads (10_state.md rules R39, R40). -/
theorem State.mem_requiredRegs {s : State} {r : JobReg} :
    r ∈ s.requiredRegs ↔ r ∈ bootRegs ∨ (s.isIndexed = true ∧
      (r = .palFmt ∨ r = .palEnd ∨ ∃ k, k < s.palCount.toNat ∧ k < s.cfg.palMax ∧ r = .palLen k)) := by
  unfold State.requiredRegs
  cases s.isIndexed <;> simp [mem_paletteRegs, and_assoc]

/-! ## The write of CMD -/

theorem hostCommand_busy {s : State} (hb : s.status = .busy) (c : Code2) : hostCommand c s = .next s := if_pos hb

theorem hostCommand_incomplete {s : State} (hi : s.status = .idle) (hc : s.cmd = none)
    (hboot : s.bootComplete = false) : hostCommand 1 s = .refused .bootIncomplete := by
  simp [hostCommand, hi, hc, hboot]

/-- Outside `BUSY` the write is the step of its command, but for a `START` before the boot requirements. -/
theorem hostCommand_eq_step {s : State} {c : Code2} (hb : s.status ≠ .busy) (hc : s.cmd = none)
    (hboot : c = 1 → s.status = .idle → s.bootComplete = true) : hostCommand c s = step { s with cmd := some c } := by
  have h : ¬ (c = 1 ∧ s.status = .idle ∧ s.bootComplete = false) := fun ⟨h1, h2, h3⟩ => by simp [hboot h1 h2] at h3
  simp only [hostCommand, hb, hc, h, if_false, ne_eq, not_true_eq_false]

theorem hostCommand_next {s t : State} {c : Code2} (h : hostCommand c s = .next t) :
    (s.status = .busy ∧ t = s) ∨ (s.status ≠ .busy ∧ step { s with cmd := some c } = .next t) := by
  unfold hostCommand at h
  split at h
  · cases h; exact .inl ⟨‹_›, rfl⟩
  · split at h <;> [cases h; split at h]
    · cases h
    · exact .inr ⟨‹_›, h⟩

/-- Placing a command keeps the invariant outside a job, where a command may wait. -/
theorem State.placeCommand_inv {s : State} (hs : s.Inv) (hb : s.status ≠ .busy) (c : Code2) :
    State.Inv { s with cmd := some c } := by
  obtain ⟨hbuf, hstage, hjob, herr⟩ := (State.inv_outside_iff hb).mp hs
  exact (State.inv_outside_iff (s := { s with cmd := some c }) hb).mpr ⟨hbuf, hstage, hjob, herr⟩

/-- Placing a command and taking it again is nothing where none was pending. -/
theorem State.takeCmd_placeCommand {s : State} (hc : s.cmd = none) (c : Code2) :
    State.takeCmd { s with cmd := some c } = s := by
  cases s; cases hc; rfl

theorem hostCommand_ignored {s : State} {c : Code2} (hb : s.status ≠ .busy) (hc : s.cmd = none) (hi : s.ignores c) :
    hostCommand c s = .next s := by
  have hboot : c = 1 → s.status = .idle → s.bootComplete = true := by
    rintro rfl hidle; simp [State.ignores, hidle] at hi
  rw [hostCommand_eq_step hb hc hboot, step_ignored (s := { s with cmd := some c }) hb rfl hi,
    State.takeCmd_placeCommand hc]

end Sys2Proof.Machine
end

section
/-! SUPPORT. The statements about the host's port, reset and the two commands. -/

namespace Sys2Proof.Machine

/-- Settles O7: each access changes the buffers or registers in canonical form, or is a step. -/
theorem hostAccessKeepsInvariant : Obligations.HostAccessKeepsInvariant := by
  intro s t hs
  refine ⟨fun r v => hostWriteReg_inv hs, fun c h => ?_, fun a v => hostPutIn_inv hs, fun k a v => hostPutPal_inv hs,
    fun a v => hostPutOut_inv hs, fun k a v => hostPutTbl_inv hs, hostReset_inv s⟩
  rcases hostCommand_next h with ⟨-, rfl⟩ | ⟨hb, hstep⟩
  · exact hs
  · exact stepKeepsInvariant _ t (State.placeCommand_inv hs hb c) hstep

/-- Settles O58: the register put is read back, every other register and the rest of the state is framed. -/
theorem registersReadBack : Obligations.RegistersReadBack := by
  intro s t r v hs h
  obtain ⟨⟨hb, hc⟩, hr, rfl⟩ := hostWriteReg_next.mp h
  obtain ⟨hout, hst, hin, hpal, hcmd, hcfg⟩ := s.putReg_frame r v
  obtain ⟨-, -, -, -, hlen, -⟩ := (State.buffersWf_iff s).mp hs.1
  refine ⟨?_, State.markWritten_contains _ r, fun q hq => State.getReg_putReg_ne s hq v, hout, hst, hin, hpal⟩
  refine whileIdle_next.mpr ⟨⟨?_, hcmd.trans hc⟩, JobReg.guard_next.mpr ⟨?_, congrArg _ ?_⟩⟩
  · exact fun e => hb (hst.1.symm.trans e)
  · exact fun k hk => hcfg ▸ hr k hk
  · exact State.getReg_putReg_same s r v fun k hk => hlen ▸ hr k hk

/-- Settles O6. -/
theorem resetMeetsInvariant : Obligations.ResetMeetsInvariant :=
  ⟨State.resetOf_inv, State.resetOf_inv Config.default⟩

/-- Settles O14: the boot requirements are exactly the registers the statement lists. -/
theorem startBeginsJob : Obligations.StartBeginsJob := by
  intro s reads
  have required : ∀ r, reads r ↔ r ∈ s.requiredRegs := fun r => State.mem_requiredRegs.symm
  have boot : (∀ r, reads r → r ∈ s.written) ↔ s.bootComplete = true := by
    simp only [required, State.bootComplete_iff]
  refine ⟨fun hi => ?_, fun hi => ?_, fun hi hc hw => ?_, fun hi hc hw => ?_⟩
  · refine ⟨s.beginJob, execStart_idle hi, ?_⟩
    simp [State.jobDiscarded, State.sameInputs, State.sameOutputs]
  · exact execStart_outside hi
  · exact hostCommand_eq_step (by simp [hi]) hc fun _ _ => boot.mp hw
  · obtain ⟨r, hr, hnot⟩ := hw
    exact hostCommand_incomplete hi hc (Bool.eq_false_iff.mpr fun h => hnot (boot.mpr h r hr))

/-- Settles O15. -/
theorem clearReturnsToIdle : Obligations.ClearReturnsToIdle := by
  refine fun s => ⟨fun he => execClear_ended he, fun h => execClear_outside ?_⟩
  rcases h with h | h <;> simp [State.ended, h]

/-- Settles O16: a code without effect is taken by the step, and the host's write of it is such a step. -/
theorem otherCommandsIgnored : Obligations.OtherCommandsIgnored := by
  refine fun s c => ⟨fun hb hc h03 => ?_, fun hb hc h => ?_, fun hb => hostCommand_busy hb c, fun hb hc hi => ?_⟩
  · exact step_ignored hb hc (h03.imp_right .inl)
  · exact hostCommand_eq_step hb hc fun h1 hidle => (h.elim (· h1) (· hidle)).elim
  · exact hostCommand_ignored hb hc hi

/-- Settles O18. -/
theorem resetValues : Obligations.ResetValues :=
  fun c => ⟨rfl, rfl, rfl, rfl, rfl, rfl, rfl, rfl, rfl, rfl, State.resetOf_jobDiscarded c⟩

end Sys2Proof.Machine
end

section
/-! SUPPORT. Which operation each stage of a job runs, and where it hands over (40_pipeline.md rule R112): every stage
that goes on ends the job or moves nearer to its end. -/

namespace Sys2Proof

/-! ## What the decoder answers, slot by slot -/

/-- A descriptor word that decodes has a legal reordering and filter, and its slot selects the operation. -/
theorem decode_descriptor {sl : Slot} {d : DescWord} {i : Instr} (h : decode sl d = .ok i)
    (hcmd : sl ≠ .cmd) (hval : sl ≠ .validate) :
    ∃ ro fi, (sl = .inOp ∧ decodeInOp d ro = .ok i) ∨ (sl = .inReorder ∧ i = reordOf ro) ∨
      (sl = .outFilter ∧ i = filtOf fi) ∨ (sl = .outPack ∧ decodeOutPack d = .ok i) := by
  cases sl with
  | cmd => exact absurd rfl hcmd
  | validate => exact absurd rfl hval
  | inOp | inReorder | outFilter | outPack =>
    dsimp only [decode] at h
    split at h <;> [cases h; split at h <;> [cases h; split at h]]
    · cases h
    · cases h
    · rename_i ro fi hro hfi
      refine ⟨ro, fi, ?_⟩
      simpa [eq_comm (a := i)] using h

theorem decode_inOp {d : DescWord} {i : Instr} (h : decode .inOp d = .ok i) :
    (∃ lay f, i = chdecOf lay f) ∨ (∃ bpp, i = .idx bpp) ∨ ∃ k ro, i = blkOf k ro := by
  obtain ⟨ro, fi, ⟨-, h⟩ | ⟨h, -⟩ | ⟨h, -⟩ | ⟨h, -⟩⟩ := decode_descriptor h (by simp) (by simp)
  · unfold decodeInOp at h
    split at h
    · cases h; exact .inr (.inr ⟨_, _, rfl⟩)
    · split at h <;> cases h
      · exact .inl ⟨_, _, rfl⟩
      · exact .inr (.inl ⟨_, rfl⟩)
  all_goals cases h

theorem decode_inReorder {d : DescWord} {i : Instr} (h : decode .inReorder d = .ok i) : ∃ ro, i = reordOf ro := by
  obtain ⟨ro, fi, ⟨h, -⟩ | ⟨-, h⟩ | ⟨h, -⟩ | ⟨h, -⟩⟩ := decode_descriptor h (by simp) (by simp)
  case inr.inl => exact ⟨ro, h⟩
  all_goals cases h

theorem decode_outFilter {d : DescWord} {i : Instr} (h : decode .outFilter d = .ok i) : ∃ fi, i = filtOf fi := by
  obtain ⟨ro, fi, ⟨h, -⟩ | ⟨h, -⟩ | ⟨-, h⟩ | ⟨h, -⟩⟩ := decode_descriptor h (by simp) (by simp)
  case inr.inr.inl => exact ⟨fi, h⟩
  all_goals cases h

theorem decode_outPack {d : DescWord} {i : Instr} (h : decode .outPack d = .ok i) : ∃ lay f, i = chencOf lay f := by
  obtain ⟨ro, fi, ⟨h, -⟩ | ⟨h, -⟩ | ⟨h, -⟩ | ⟨-, h⟩⟩ := decode_descriptor h (by simp) (by simp)
  case inr.inr.inr =>
    unfold decodeOutPack at h
    split at h
    · cases h
    · split at h <;> cases h
      exact ⟨_, _, rfl⟩
  all_goals cases h

end Sys2Proof

namespace Sys2Proof.Machine

/-! ## The families of instructions -/

theorem exec_chdecOf (lay : Layout) (f : PlainFmt) (s : State) : exec (chdecOf lay f) s = chdecStage lay f s := by
  cases lay <;> rfl

theorem exec_chencOf (lay : Layout) (f : PlainFmt) (s : State) : exec (chencOf lay f) s = chencStage lay f s := by
  cases lay <;> rfl

/-- A special kind is decoded block by block, or for PVRTC as a whole picture (47_pvrtc.md rule R330). -/
theorem exec_blkOf (k : Special) (ro : Reorder) (s : State) :
    (∃ codec, exec (blkOf k ro) s = blockStage k codec ro s) ∨
      ∃ pixel, exec (blkOf k ro) s = pvrtStage k pixel ro s := by
  cases k with
  | pvrt2 => exact .inr ⟨_, rfl⟩
  | pvrt4 => exact .inr ⟨_, rfl⟩
  | _ => exact .inl ⟨_, rfl⟩

theorem exec_reordOf {ro : Reorder} (h : ro ≠ .linear) (s : State) : exec (reordOf ro) s = reordStage ro s := by
  cases ro with
  | linear => exact absurd rfl h
  | tile3ds | morton | psp | switch => rfl

/-! ## Handing over to the next stage -/

/-- The answer takes an error, or leaves the status and enters stage `g`. -/
def HandsOver (s : State) (g : Stage) (r : Result) : Prop :=
  Raises s r ∨ ∃ t, r = .next t ∧ t.status = s.status ∧ t.stage = g

/-- The answer takes an error, or ends the job in `DONE`. -/
def Completes (s : State) (r : Result) : Prop := Raises s r ∨ ∃ t, r = .next t ∧ t.status = .done

theorem Raises.ended {s t : State} (h : Raises s (.next t)) : t.ended := by
  obtain ⟨e, v, -, h⟩ := h; cases h; exact .inr rfl

theorem chdecOf_handsOver (lay : Layout) (f : PlainFmt) (s : State) :
    HandsOver s .reorder (exec (chdecOf lay f) s) := by
  rw [exec_chdecOf]
  rcases chdecStage_cases lay f s with h | ⟨-, e, -, -, h⟩
  · exact .inl h
  · exact .inr ⟨_, h, rfl, rfl⟩

theorem idx_handsOver (bpp : Bpp) (s : State) : HandsOver s .reorder (exec (.idx bpp) s) := by
  rcases execIdx_cases bpp s with h | ⟨-, -, e, lay, pe, -, -, -, -, h⟩
  · exact .inl h
  · exact .inr ⟨_, h, rfl, rfl⟩

theorem blkOf_handsOver (k : Special) (ro : Reorder) (s : State) : HandsOver s .reorder (exec (blkOf k ro) s) := by
  rcases exec_blkOf k ro s with ⟨codec, e⟩ | ⟨pixel, e⟩ <;> rw [e]
  · rcases blockStage_cases k codec ro s with h | ⟨-, -, h⟩
    · exact .inl h
    · exact .inr ⟨_, h, rfl, rfl⟩
  · rcases pvrtStage_cases k pixel ro s with h | ⟨-, -, h⟩
    · exact .inl h
    · exact .inr ⟨_, h, rfl, rfl⟩

theorem reordOf_handsOver (ro : Reorder) (s : State) : HandsOver s .filter (exec (reordOf ro) s) := by
  by_cases hl : ro = .linear
  · subst hl; exact .inr ⟨_, rfl, rfl, rfl⟩
  · rw [exec_reordOf hl]
    rcases reordStage_cases ro s with h | ⟨-, h⟩ | ⟨-, -, -, h⟩ | ⟨-, -, -, h⟩
    · exact .inl h
    all_goals exact .inr ⟨_, h, rfl, rfl⟩

theorem filtOf_handsOver (fi : Filter) (s : State) : HandsOver s .pack (exec (filtOf fi) s) := by
  cases fi with
  | none => exact .inr ⟨_, rfl, rfl, rfl⟩
  | dither =>
    change HandsOver s .pack (execFiltDither s)
    unfold execFiltDither
    split <;> exact .inr ⟨_, rfl, rfl, rfl⟩

theorem chencOf_completes (lay : Layout) (f : PlainFmt) (s : State) : Completes s (exec (chencOf lay f) s) := by
  rw [exec_chencOf]
  rcases chencStage_cases lay f s with h | ⟨-, e, -, h⟩
  · exact .inl h
  · exact .inr ⟨_, h, rfl⟩

theorem packIndexed_completes (s : State) : Completes s (packIndexed s) := by
  rcases packIndexed_cases s with h | ⟨e, -, h⟩
  · exact .inl h
  · exact .inr ⟨_, h, rfl⟩

/-! ## The end of a job -/

/-- How many stages a job at stage `g` has still to run (40_pipeline.md rule R112). -/
def Stage.left : Stage → Nat
  | .validate => 5 | .decode => 4 | .reorder => 3 | .filter => 2 | .pack => 1
  | .idle => 0 | .done => 0 | .error => 0

/-- The job has ended, or it runs and fewer stages are left than at stage `g`. -/
def State.nearer (t : State) (g : Stage) : Prop :=
  t.ended ∨ (t.status = .busy ∧ 0 < t.stage.left ∧ t.stage.left < g.left)

theorem HandsOver.nearer {s t : State} {g : Stage} (h : HandsOver s g (.next t)) (hb : s.status = .busy)
    (h0 : 0 < g.left) (hlt : g.left < s.stage.left) : t.nearer s.stage := by
  rcases h with h | ⟨u, hu, hst, hg⟩
  · exact .inl h.ended
  · cases hu
    exact .inr ⟨hst.trans hb, hg ▸ h0, hg ▸ hlt⟩

theorem Completes.nearer {s t : State} {g : Stage} (h : Completes s (.next t)) : t.nearer g := by
  rcases h with h | ⟨u, hu, hst⟩
  · exact .inl h.ended
  · cases hu; exact .inl (.inl hst)

theorem execValidate_nearer {s t : State} (hb : s.status = .busy) (hg : s.stage = .validate)
    (h : execValidate s = .next t) : t.nearer s.stage := by
  rcases execValidate_cases s with ⟨-, e⟩ | ⟨-, -, e⟩ | ⟨-, -, e⟩ <;> rw [h] at e
  · exact .inl e.ended
  · cases e; exact .inl (.inl rfl)
  · cases e; exact .inr ⟨hb, by simp [Stage.left], by simp [hg, Stage.left]⟩

theorem fetchWord_stageOp {sl : Slot} {d : DescWord} {i : Instr} (h : fetchWord sl d = .stageOp i) :
    decode sl d = .ok i := by
  unfold fetchWord at h
  split at h <;> cases h
  assumption

theorem exec_stageOp_nearer {s t : State} {i : Instr} (hb : s.status = .busy) (hf : fetchStage s = .stageOp i)
    (h : exec i s = .next t) : t.nearer s.stage := by
  have advance : ∀ g, HandsOver s g (exec i s) → 0 < g.left → g.left < s.stage.left → t.nearer s.stage :=
    fun g hg => HandsOver.nearer (h ▸ hg) hb
  unfold fetchStage at hf
  cases hg : s.stage <;> simp only [hg] at hf advance ⊢
  case validate => cases hf; exact hg ▸ execValidate_nearer hb hg h
  case decode =>
    refine advance .reorder ?_ (by decide) (by decide)
    rcases decode_inOp (fetchWord_stageOp hf) with ⟨lay, f, rfl⟩ | ⟨bpp, rfl⟩ | ⟨k, ro, rfl⟩
    · exact chdecOf_handsOver lay f s
    · exact idx_handsOver bpp s
    · exact blkOf_handsOver k ro s
  case reorder =>
    obtain ⟨ro, rfl⟩ := decode_inReorder (fetchWord_stageOp hf)
    exact advance .filter (reordOf_handsOver ro s) (by decide) (by decide)
  case filter =>
    obtain ⟨fi, rfl⟩ := decode_outFilter (fetchWord_stageOp hf)
    exact advance .pack (filtOf_handsOver fi s) (by decide) (by decide)
  case pack =>
    split at hf
    · cases hf
    · obtain ⟨lay, f, rfl⟩ := decode_outPack (fetchWord_stageOp hf)
      exact Completes.nearer (h ▸ chencOf_completes lay f s)
  all_goals cases hf

/-- Every stage that goes on brings its job nearer to the end. -/
theorem stageStep_nearer {s t : State} (hb : s.status = .busy) (h : stageStep s = .next t) : t.nearer s.stage := by
  rcases stageStep_cases s with ⟨i, hf, e⟩ | ⟨-, e⟩ | ⟨_, -, e⟩ | e <;> rw [h] at e
  · exact exec_stageOp_nearer hb hf e.symm
  · exact Completes.nearer (e ▸ packIndexed_completes s)
  · cases e
  · cases e

theorem State.ended_not_busy {s : State} (h : s.ended) : s.status ≠ .busy := by
  rcases h with h | h <;> simp [h]

/-- A job run for as many stages as it has left has ended. -/
theorem runStages_ended {n : Nat} {s t : State} (hb : s.status = .busy) (h0 : 0 < s.stage.left)
    (hn : s.stage.left ≤ n) (h : runStages n s = .next t) : t.ended := by
  induction n generalizing s with
  | zero => omega
  | succ n ih =>
    rw [runStages, if_pos hb] at h
    obtain ⟨u, hu, hrest⟩ := andThen_next h
    rcases stageStep_nearer hb hu with he | ⟨hbu, h0u, hlt⟩
    · rw [runStages_outside (State.ended_not_busy he)] at hrest
      cases hrest; exact he
    · exact ih hbu h0u (by omega) hrest

/-- Outside a job a step changes the status only by `START` in `IDLE`, which runs its job to the end, and by `CLEAR` after
one (10_state.md rules R31, R32). -/
theorem step_outside_status {s t : State} (hb : s.status ≠ .busy) (h : step s = .next t) :
    t.status = s.status ∨ (s.status = .idle ∧ s.cmd = some 1 ∧ t.ended) ∨
      (s.ended ∧ s.cmd = some 2 ∧ t.status = .idle) := by
  rcases step_outside_cases hb with e | e | ⟨hi, hc, e⟩ | ⟨he, hc, e⟩ <;> rw [e] at h
  · cases h; exact .inl rfl
  · cases h; exact .inl rfl
  · exact .inr (.inl ⟨hi, hc, runStages_ended (State.beginJob_status _) (Nat.succ_pos 4) (Nat.le_refl 5) h⟩)
  · cases h; exact .inr (.inr ⟨he, hc, rfl⟩)

end Sys2Proof.Machine
end

section
/-! SUPPORT. The statement about the status in a step. -/

namespace Sys2Proof.Machine

/-- Settles O10: outside a job each command has one effect on the status, `START` by running its job to the end; inside
one a stage stays in the job or ends it. -/
theorem statusTransitions : Obligations.StatusTransitions := by
  intro s t h
  by_cases hb : s.status = .busy
  · rw [step_busy hb] at h
    have ht : t.status = .busy ∨ t.ended := Moves.busy_or_ended hb (h ▸ stageStep_moves h)
    refine ⟨by simp [hb], by simp [hb], by simp [hb], fun _ => ?_⟩
    rcases ht with e | e | e <;> simp [e]
  · rcases step_outside_status hb h with e | ⟨hi, hc, ht⟩ | ⟨he, hc, ht⟩
    · exact ⟨fun hi hn => absurd (e.trans hi) hn, fun _ hn => absurd e hn, fun _ => e ▸ hb, fun hn => absurd hn hb⟩
    · simp [hi, hc, ht, State.ended_not_busy ht]
    · have hidle : s.status ≠ .idle := by rcases he with h | h <;> simp [h]
      simp [hidle, hb, hc, ht]

end Sys2Proof.Machine
end

section
/-! SUPPORT. The operand checks of the stages against the legal operands: each check passes exactly on what is legal, and
a failing one names a sub-cause of its own range (41_descriptor_validator.md rules R142 to R151, log entry 11). -/

namespace Sys2Proof.Machine

/-! ## The checks -/

/-- A chain of checks passes exactly where its first check and the rest pass. -/
theorem ite_some_eq_none_iff {α : Type} {p : Prop} [Decidable p] {x : α} {r : Option α} :
    (if p then some x else r) = none ↔ ¬ p ∧ r = none := by
  split <;> simp_all

/-- A plain layout's fields pass the check exactly where they are well-formed. -/
theorem checkPlain_eq_none_iff {lay : Layout} {f : PlainFmt} : checkPlain lay f = none ↔ f.wf lay = true := by
  simp [checkPlain, PlainFmt.wf, ite_some_eq_none_iff, and_assoc]

/-- A map's geometry check passes exactly where the engine performs the reordering. -/
theorem reordSub_eq_none_iff {c : Config} {ro : Reorder} {w h eb : Nat} :
    reordSub c ro w h eb = none ↔ reorderable c ro w h eb := by
  cases ro with
  | linear | morton => simp [reordSub, reorderable]
  | tile3ds | psp | switch =>
    simp only [reordSub, reorderable, ite_some_eq_none_iff, Bool.not_eq_false]
    grind

theorem reordSub_range {c : Config} {ro : Reorder} {w h eb sub : Nat} (hs : reordSub c ro w h eb = some sub) :
    4 ≤ sub ∧ sub ≤ 11 := by
  cases ro with
  | linear | morton => cases hs
  | tile3ds | psp | switch =>
    simp only [reordSub] at hs
    split_ifs at hs <;> cases hs <;> decide

/-- A special kind's reordering check on the block grid, none on an empty picture (48_reorder.md rule R366). -/
theorem gridSub_eq_none_iff {c : Config} {ro : Reorder} {n w h eb : Nat} :
    (if n = 0 then none else reordSub c ro w h eb) = none ↔ (n ≠ 0 → reorderable c ro w h eb) := by
  rw [← reordSub_eq_none_iff]
  split <;> simp_all

/-- The check of a special kind passes exactly where the engine performs its reordering. -/
theorem specialSub_eq_none_iff {c : Config} {k : Special} {ro : Reorder} {w h : Nat} :
    specialSub c k ro w h = none ↔ blocksLegal c k ro w h := by
  simp only [specialSub, blocksLegal, ite_some_eq_none_iff]
  split
  · rename_i sub hg
    have := gridSub_eq_none_iff.not.mp (hg ▸ Option.some_ne_none sub)
    grind
  · rename_i hg
    have := gridSub_eq_none_iff.mp hg
    simp only [ite_some_eq_none_iff]
    grind

theorem specialSub_range {c : Config} {k : Special} {ro : Reorder} {w h sub : Nat}
    (hs : specialSub c k ro w h = some sub) : 4 ≤ sub ∧ sub ≤ 12 := by
  unfold specialSub at hs
  split_ifs at hs
  any_goals cases hs; decide
  all_goals
    split at hs
    · rename_i hg
      cases hs
      have := reordSub_range hg
      omega
    · cases hs <;> decide

theorem checkBytes_of_lt {s : State} {n : Nat} (h : s.inLen.toNat < n) :
    checkBytes s n = some (.truncated, truncatedInfo n) := if_pos h

/-! ## The stages on operands that fail a check -/

theorem chdecStage_plain {lay : Layout} {f : PlainFmt} {sub : Nat} (h : checkPlain lay f = some sub) (s : State) :
    chdecStage lay f s = raising (validationErr sub 1) s := by
  simp only [chdecStage, h]

theorem chencStage_plain {lay : Layout} {f : PlainFmt} {sub : Nat} (h : checkPlain lay f = some sub) (s : State) :
    chencStage lay f s = raising (validationErr sub 2) s := by
  simp only [chencStage, h]

theorem chdecStage_endian {lay : Layout} {f : PlainFmt} {s : State} (h : checkPlain lay f = none)
    (he : endianOf s.inEnd = none) : chdecStage lay f s = raising (validationErr 6 1) s := by
  simp only [chdecStage, h, he]

theorem chencStage_endian {lay : Layout} {f : PlainFmt} {s : State} (h : checkPlain lay f = none)
    (he : endianOf s.outEnd = none) : chencStage lay f s = raising (validationErr 6 2) s := by
  simp only [chencStage, h, he]

theorem chdecStage_truncated {lay : Layout} {f : PlainFmt} {e : Endian} {s : State} (h : checkPlain lay f = none)
    (he : endianOf s.inEnd = some e) (hl : s.inLen.toNat < sampleBytes s.area f.bpp.bits) :
    chdecStage lay f s = raising (.truncated, truncatedInfo (sampleBytes s.area f.bpp.bits)) s := by
  simp only [chdecStage, h, he, checkBytes_of_lt hl]

theorem blkOf_unsupported {k : Special} {ro : Reorder} {s : State} {sub : Nat}
    (h : specialSub s.cfg k ro s.w s.h = some sub) : exec (blkOf k ro) s = raising (unsupportedErr sub) s := by
  rcases exec_blkOf k ro s with ⟨codec, e⟩ | ⟨pixel, e⟩ <;> rw [e]
  · simp only [blockStage, h]
  · simp only [pvrtStage, h]

theorem blkOf_truncated {k : Special} {ro : Reorder} {s : State} (h : specialSub s.cfg k ro s.w s.h = none)
    (hl : s.inLen.toNat < specialBytes k s.w s.h) :
    exec (blkOf k ro) s = raising (.truncated, truncatedInfo (specialBytes k s.w s.h)) s := by
  rcases exec_blkOf k ro s with ⟨codec, e⟩ | ⟨pixel, e⟩ <;> rw [e]
  · simp only [blockStage, h, checkBytes_of_lt hl]
  · simp only [pvrtStage, h, checkBytes_of_lt hl]

theorem reordStage_unsupported {ro : Reorder} {s : State} {sub : Nat} (h0 : descSpecial s.inFmt = 0)
    (h : reordSub s.cfg ro s.w s.h s.inBpp.bits = some sub) : reordStage ro s = raising (unsupportedErr sub) s := by
  simp only [reordStage, h0, h, ne_eq, not_true_eq_false, if_false]

end Sys2Proof.Machine
end

section
/-! SUPPORT. The statement about the traps of the stages. -/

namespace Sys2Proof.Machine

/-- Settles O36: each illegal operand fails the stage's own check, whose error the operation raises. -/
theorem stagesRaiseValidateErrors : Obligations.StagesRaiseValidateErrors := by
  refine fun s => ⟨fun lay f hf => ?_, fun lay f hf he => ?_, fun lay f hf he => ?_, fun lay f e hf he hl => ?_,
    fun k ro hk => ?_, fun k ro hk hl => ?_, fun ro h0 hro => ?_⟩
  · have hne : checkPlain lay f ≠ none := fun h => by simp [checkPlain_eq_none_iff.mp h] at hf
    obtain ⟨sub, hsub⟩ := Option.ne_none_iff_exists'.mp hne
    exact ⟨_, _, (exec_chdecOf lay f s).trans (chdecStage_plain hsub s),
      (exec_chencOf lay f s).trans (chencStage_plain hsub s)⟩
  · exact (exec_chdecOf lay f s).trans (chdecStage_endian (checkPlain_eq_none_iff.mpr hf) he)
  · exact (exec_chencOf lay f s).trans (chencStage_endian (checkPlain_eq_none_iff.mpr hf) he)
  · exact (exec_chdecOf lay f s).trans (chdecStage_truncated (checkPlain_eq_none_iff.mpr hf) he hl)
  · obtain ⟨sub, hsub⟩ := Option.ne_none_iff_exists'.mp (specialSub_eq_none_iff.not.mpr hk)
    obtain ⟨h4, h12⟩ := specialSub_range hsub
    exact ⟨sub, h4, h12, blkOf_unsupported hsub⟩
  · exact blkOf_truncated (specialSub_eq_none_iff.mpr hk) hl
  · obtain ⟨sub, hsub⟩ := Option.ne_none_iff_exists'.mp (reordSub_eq_none_iff.not.mpr hro)
    obtain ⟨h4, h11⟩ := reordSub_range hsub
    have hl : ro ≠ .linear := fun h => hro (h ▸ trivial)
    exact ⟨sub, h4, h11, (exec_reordOf hl s).trans (reordStage_unsupported h0 hsub)⟩

end Sys2Proof.Machine
end

section
/-! SUPPORT. Streams of raw samples: how many bytes a list of samples is written to, and that reading the stream gives them
back (42_channel_codec.md rules R163 to R167, R175, R177). -/

namespace Sys2Proof.Machine

/-! ## Bytes and numbers -/

/-- A stream written into an empty buffer reads as its bytes. -/
theorem Memory.read_stream (bs : List Byte) (x : Nat) : (Memory.writeBytes [] 0 bs).read x = bs.getD x 0 := by
  rw [Memory.read_writeBytes Memory.nil_wf]
  by_cases hx : x < bs.length
  · simp [hx]
  · simp [hx, unlistedByte]

@[simp] theorem leBytes_length (v n : Nat) : (leBytes v n).length = n := by
  induction n generalizing v with
  | zero => rfl
  | succ n ih => simp [leBytes, ih]

theorem le_leBytes (v n : Nat) : le (leBytes v n) = v % 256 ^ n := by
  induction n generalizing v with
  | zero => simp [leBytes, le, Nat.mod_one]
  | succ n ih => rw [leBytes, le, ih, Nat.pow_succ', Nat.mod_mul, BitVec.toNat_ofNat]

@[simp] theorem sampleToBytes_length (n : Nat) (e : Endian) (raw : Nat) : (sampleToBytes (8 * n) e raw).length = n := by
  cases e <;> simp [sampleToBytes]

/-- The number a byte string stands for in a byte order (42_channel_codec.md rules R164, R165). -/
def sampleOfBytes (e : Endian) (bs : List Byte) : Nat :=
  match e with
  | .little => le bs
  | .big => be bs

/-- The bytes of a sample stand for it in either byte order. -/
theorem sampleOfBytes_sampleToBytes {n raw : Nat} (h : raw < 2 ^ (8 * n)) (e : Endian) :
    sampleOfBytes e (sampleToBytes (8 * n) e raw) = raw := by
  have h256 : raw < 256 ^ n := by rwa [Nat.pow_mul] at h
  cases e <;> simp [sampleOfBytes, sampleToBytes, be, le_leBytes, Nat.mod_eq_of_lt h256]

/-! ## Samples of whole bytes -/

theorem readSample_wide (c : Config) (m : Memory) (i n : Nat) (e : Endian) :
    readSample c m i (8 * n) e = sampleOfBytes e (m.readBytes (i * n) n) := by
  have h4 : 8 * n ≠ 4 := by omega
  cases e <;> simp [readSample, h4, sampleOfBytes]

theorem writeSamples_wide (c : Config) (n : Nat) (e : Endian) (raws : List Nat) :
    writeSamples c (8 * n) e raws = raws.flatMap (sampleToBytes (8 * n) e) :=
  if_neg (by omega)

/-- Byte `j` of sample `i` in a stream of samples of `n` bytes. -/
theorem getD_flatMap_of_length {f : Nat → List Byte} {n : Nat} (hf : ∀ r, (f r).length = n) {raws : List Nat} {i j : Nat}
    (hi : i < raws.length) (hj : j < n) : (raws.flatMap f).getD (i * n + j) 0 = (f (raws.getD i 0)).getD j 0 := by
  induction raws generalizing i with
  | nil => cases hi
  | cons r rs ih =>
    rw [List.flatMap_cons]
    cases i with
    | zero =>
      rw [List.getD_append _ _ _ _ (by rw [hf]; omega), Nat.zero_mul, Nat.zero_add, List.getD_cons_zero]
    | succ i =>
      have hsub : (i + 1) * n + j - (f r).length = i * n + j := by rw [hf, Nat.succ_mul]; omega
      rw [List.getD_append_right _ _ _ _ (by rw [hf, Nat.succ_mul]; omega), hsub, List.getD_cons_succ]
      exact ih (Nat.lt_of_succ_lt_succ hi)

/-- The bytes of sample `i` in the stream it was written to. -/
theorem readBytes_stream (n : Nat) (e : Endian) {raws : List Nat} {i : Nat} (hi : i < raws.length) :
    (Memory.writeBytes [] 0 (raws.flatMap (sampleToBytes (8 * n) e))).readBytes (i * n) n =
      sampleToBytes (8 * n) e (raws.getD i 0) := by
  refine List.ext_getElem (by simp [Memory.readBytes]) fun j h1 h2 => ?_
  have hj : j < n := by simpa using h2
  simp only [Memory.readBytes, List.getElem_map, List.getElem_range, Memory.read_stream]
  rw [getD_flatMap_of_length (sampleToBytes_length n e) hi hj, List.getD_eq_getElem _ _ h2]

theorem readSample_writeSamples_wide (c : Config) (n : Nat) (e : Endian) {raws : List Nat} {i : Nat}
    (hi : i < raws.length) (hr : raws.getD i 0 < 2 ^ (8 * n)) :
    readSample c (Memory.writeBytes [] 0 (writeSamples c (8 * n) e raws)) i (8 * n) e = raws.getD i 0 := by
  rw [writeSamples_wide, readSample_wide, readBytes_stream n e hi, sampleOfBytes_sampleToBytes hr]

/-! ## Samples of four bits -/

theorem writeSamples_nibble (c : Config) (e : Endian) (raws : List Nat) :
    writeSamples c 4 e raws = packNibbles (nibbleSwapped c e) raws := rfl

theorem packNibbles_length (swap : Bool) (raws : List Nat) : (packNibbles swap raws).length = (raws.length + 1) / 2 := by
  induction raws using packNibbles.induct with
  | case1 => rfl
  | case2 a => simp [packNibbles]
  | case3 a b t ih => simp only [packNibbles, List.length_cons, ih]; omega

/-- Byte `j` holds the samples `2 * j` and `2 * j + 1`; one past the end counts as 0 (42_channel_codec.md rule R177). -/
theorem packNibbles_getD (swap : Bool) (raws : List Nat) (j : Nat) :
    (packNibbles swap raws).getD j 0 = nibbleByte swap (raws.getD (2 * j) 0) (raws.getD (2 * j + 1) 0) := by
  have empty : nibbleByte swap 0 0 = 0 := by cases swap <;> rfl
  induction raws using packNibbles.induct generalizing j with
  | case1 => exact empty.symm
  | case2 a =>
    cases j with
    | zero => rfl
    | succ j => exact empty.symm
  | case3 a b t ih =>
    cases j with
    | zero => rfl
    | succ j => exact ih j

theorem swapNibbles_lt {v : Nat} (h : v < 256) : swapNibbles v < 256 := by unfold swapNibbles; omega

theorem swapNibbles_swapNibbles {v : Nat} (h : v < 256) : swapNibbles (swapNibbles v) = v := by
  unfold swapNibbles; omega

/-- A byte of two nibbles, exchanged back where the quirk exchanged them (42_channel_codec.md rule R167). -/
theorem nibbleByte_unswapped (swap : Bool) (hi lo : Nat) :
    (if swap then swapNibbles (nibbleByte swap hi lo).toNat else (nibbleByte swap hi lo).toNat) =
      hi % 16 * 16 + lo % 16 := by
  have hv : hi % 16 * 16 + lo % 16 < 256 := by omega
  cases swap with
  | false => simp [nibbleByte, Nat.mod_eq_of_lt hv]
  | true => simp [nibbleByte, Nat.mod_eq_of_lt (swapNibbles_lt hv), swapNibbles_swapNibbles hv]

theorem readSample_nibble (c : Config) (m : Memory) (i : Nat) (e : Endian) {hi lo : Nat}
    (hm : m.read (i / 2) = nibbleByte (nibbleSwapped c e) hi lo) :
    readSample c m i 4 e = if i % 2 = 0 then hi % 16 else lo % 16 := by
  simp only [readSample, if_true, hm, nibbleByte_unswapped]
  split <;> omega

theorem readSample_writeSamples_nibble (c : Config) (e : Endian) {raws : List Nat} {i : Nat}
    (hr : raws.getD i 0 < 16) :
    readSample c (Memory.writeBytes [] 0 (writeSamples c 4 e raws)) i 4 e = raws.getD i 0 := by
  rw [writeSamples_nibble, readSample_nibble c _ i e ((Memory.read_stream _ _).trans (packNibbles_getD _ raws _))]
  split
  · rw [show 2 * (i / 2) = i by omega, Nat.mod_eq_of_lt hr]
  · rw [show 2 * (i / 2) + 1 = i by omega, Nat.mod_eq_of_lt hr]

/-! ## Every bpp-class -/

/-- A legal sample has four bits or whole bytes (42_channel_codec.md rule R164). -/
theorem Bpp.bits_of_legal {b : Bpp} (h : b.legal = true) : b.bits = 4 ∨ ∃ n, b.bits = 8 * n := by
  cases b with
  | rsv0 | rsv7 => cases h
  | b4 => exact .inl rfl
  | b8 => exact .inr ⟨1, rfl⟩
  | b16 => exact .inr ⟨2, rfl⟩
  | b24 => exact .inr ⟨3, rfl⟩
  | b32 => exact .inr ⟨4, rfl⟩
  | b64 => exact .inr ⟨8, rfl⟩

/-- A stream of samples has `ceil(n*bpp/8)` bytes (20_memory.md rule R54). -/
theorem writeSamples_length (c : Config) {b : Bpp} (h : b.legal = true) (e : Endian) (raws : List Nat) :
    (writeSamples c b.bits e raws).length = sampleBytes raws.length b.bits := by
  rcases Bpp.bits_of_legal h with h4 | ⟨n, h8⟩
  · rw [h4, sampleBytes, writeSamples_nibble, packNibbles_length]
    omega
  · have bytes : sampleBytes raws.length (8 * n) = raws.length * n := by
      rw [sampleBytes, Nat.mul_left_comm]; omega
    rw [h8, writeSamples_wide, bytes]
    simp [List.length_flatMap]

theorem readSample_writeSamples (c : Config) {b : Bpp} (h : b.legal = true) (e : Endian) {raws : List Nat} {i : Nat}
    (hi : i < raws.length) (hr : raws.getD i 0 < 2 ^ b.bits) :
    readSample c (Memory.writeBytes [] 0 (writeSamples c b.bits e raws)) i b.bits e = raws.getD i 0 := by
  rcases Bpp.bits_of_legal h with h4 | ⟨n, h8⟩
  · rw [h4] at hr ⊢
    exact readSample_writeSamples_nibble c e hr
  · rw [h8] at hr ⊢
    exact readSample_writeSamples_wide c n e hi hr

/-- Settles O29: a stream of nibbles is read back pair by pair, a stream of wider samples chunk by chunk. -/
theorem writtenSamplesReadBack : Obligations.WrittenSamplesReadBack := by
  refine fun c b e raws hb hfit => ⟨writeSamples_length c hb e raws, fun i hi => readSample_writeSamples c hb e hi ?_⟩
  rw [List.getD_eq_getElem _ _ hi]
  exact hfit _ (List.getElem_mem hi)

end Sys2Proof.Machine
end

section
/-! SUPPORT. The pack stage of a job that is not indexed: what `CHENC` writes on legal operands (42_channel_codec.md rule
R176). -/

namespace Sys2Proof.Machine

theorem PlainFmt.wf_legal {lay : Layout} {f : PlainFmt} (h : f.wf lay = true) : f.bpp.legal = true := by
  simp only [PlainFmt.wf, Bool.and_eq_true, and_assoc] at h
  exact h.1

/-- A list of no tables writes no buffer. -/
@[simp] theorem writeTables_nil (ms : List Memory) : writeTables ms [] = ms := by cases ms <;> rfl

/-- A list of no tables sets every length to 0 (log entry 9). -/
@[simp] theorem tableLens_nil (n : Nat) : tableLens n [] = List.replicate n 0 := by
  induction n with
  | zero => rfl
  | succ n ih => rw [tableLens, ih, List.replicate_succ]

theorem chencStage_of_wf {lay : Layout} {f : PlainFmt} {e : Endian} {s : State} (hf : f.wf lay = true)
    (he : endianOf s.outEnd = some e) :
    chencStage lay f s = .next ((s.writeOut (chenc s.cfg s.canon lay f e s.area)).writeTbl []).finish := by
  simp only [chencStage, checkPlain_eq_none_iff.mpr hf, he]

theorem chenc_length (c : Config) (px : List Pixel) {lay : Layout} {f : PlainFmt} (hf : f.wf lay = true) (e : Endian)
    (n : Nat) : (chenc c px lay f e n).length = sampleBytes n f.bpp.bits := by
  rw [chenc, writeSamples_length c (PlainFmt.wf_legal hf), List.length_map, List.length_range]

/-- Bytes written to `OUT` replace its first bytes and no other. -/
theorem State.writeOut_read {s : State} (h : s.out.wf = true) (bs : List Byte) (a : Nat) :
    (s.writeOut bs).out.read a = if a < bs.length then bs.getD a 0 else s.out.read a := by
  simp [Memory.read_writeBytes h]

/-- Settles O27: on legal operands the stage is one write of the packed samples and the end of the job. -/
theorem chencCompletes : Obligations.ChencCompletes := by
  intro lay f e s hf he hout n raws
  have len : (chenc s.cfg s.canon lay f e s.area).length = n := chenc_length s.cfg s.canon hf e s.area
  refine ⟨_, (exec_chencOf lay f s).trans (chencStage_of_wf hf he), rfl, rfl, rfl, rfl, ?outLen, fun a => ?out,
    tableLens_nil _, writeTables_nil _, ⟨rfl, rfl, rfl, rfl, rfl, rfl⟩, rfl, rfl, ?inputs⟩
  case outLen => exact congrArg (BitVec.ofNat 32) len
  case out => exact len ▸ State.writeOut_read hout (chenc s.cfg s.canon lay f e s.area) a
  case inputs => simp [State.sameInputs]

end Sys2Proof.Machine
end

section
/-! SUPPORT. When the outputs change (20_memory.md rule R64). -/

namespace Sys2Proof.Machine

/-- A move of an instruction leaves the outputs alone, or ends the job in `DONE`. -/
theorem Moves.sameOutputs_or_done {s t : State} (h : Moves s (.next t)) : s.sameOutputs t ∨ t.status = .done := by
  cases h with
  | emptyJob | packs => exact .inr rfl
  | same | begins | cleared | raises | stage | decoded | decodedIdx | canon | idx => exact .inl ⟨rfl, rfl, rfl, rfl⟩

theorem State.sameOutputs_trans {s t u : State} (h : s.sameOutputs t) (k : t.sameOutputs u) : s.sameOutputs u := by
  simp only [State.sameOutputs] at h k ⊢
  simp only [k, h, and_self]

/-- In a step from `s` the outputs are still those of `s`, and a job runs only if `s` is not in `DONE`; or the step has
led into `DONE`. -/
def State.outputsKept (s u : State) : Prop :=
  (s.sameOutputs u ∧ (u.status = .busy → s.status ≠ .done)) ∨ (u.status = .done ∧ s.status ≠ .done)

theorem step_outputsKept {s t : State} (h : step s = .next t) : s.outputsKept t := by
  have same : s.sameOutputs s := ⟨rfl, rfl, rfl, rfl⟩
  refine step_induct (P := s.outputsKept) (.inl ⟨same, fun hb => by simp [hb]⟩) h ?take ?start ?clear ?stage
  case take => exact fun _ => .inl ⟨same, fun hb => by simp [show s.status = .busy from hb]⟩
  case start => exact fun hi => .inl ⟨same, fun _ => by simp [hi]⟩
  case clear => exact fun _ => .inl ⟨same, fun hb => by cases hb⟩
  case stage =>
    intro u v hb hu huv
    rcases hu with ⟨hout, hs⟩ | ⟨hd, -⟩
    · rcases huv.sameOutputs_or_done with hv | hv
      · exact .inl ⟨State.sameOutputs_trans hout hv, fun _ => hs hb⟩
      · exact .inr ⟨hv, hs hb⟩
    · simp [hb] at hd

/-- Settles O9: the one way a step changes the outputs is a job's end in `DONE`, and no job starts in `DONE`. -/
theorem outputsChangeOnlyAtDone : Obligations.OutputsChangeOnlyAtDone := by
  intro s t h hdone
  rcases step_outputsKept h with ⟨hout, -⟩ | ⟨ht, hs⟩
  · exact hout
  · exact absurd (hdone ht) hs

end Sys2Proof.Machine
end

section
/-! SUPPORT. The buffers at the host's port: the bytes of the outputs it reads and the bytes it places (20_memory.md rule
R50, 70_reset_and_hazards.md rules R444, R451). -/

namespace Sys2Proof.Machine

/-! ## Reading the outputs -/

theorem whileIdle_refused {α : Type} {s : State} (h : s.status = .busy ∨ s.cmd ≠ none) (r : Answer α) :
    whileIdle s r = .refused .hostAccessWhileBusy := if_pos h

theorem hostReadOut_below {s : State} {a : Nat} (hb : s.status ≠ .busy) (hc : s.cmd = none) (ha : a < s.outLen.toNat) :
    hostReadOut a s = .next (s.out.read a) :=
  whileIdle_next.mpr ⟨⟨hb, hc⟩, congrArg _ (if_pos ha)⟩

theorem hostReadOut_beyond {s : State} {a : Nat} (hb : s.status ≠ .busy) (hc : s.cmd = none) (ha : s.outLen.toNat ≤ a) :
    hostReadOut a s = .next (Config.freeByte s.jobs 0 a) :=
  whileIdle_next.mpr ⟨⟨hb, hc⟩, congrArg _ (if_neg (Nat.not_lt.mpr ha))⟩

theorem hostReadTbl_below {s : State} {k a : Nat} (hb : s.status ≠ .busy) (hc : s.cmd = none) (hk : k < s.cfg.palMax)
    (ha : a < (s.tblLen.getD k 0).toNat) : hostReadTbl k a s = .next ((s.tbl.getD k []).read a) :=
  whileIdle_next.mpr ⟨⟨hb, hc⟩, indexed_next.mpr ⟨hk, congrArg _ (if_pos ha)⟩⟩

/-- Settles O59. -/
theorem hostReadsOutputs : Obligations.HostReadsOutputs :=
  fun _ => ⟨fun hb hc => ⟨fun _ => hostReadOut_below hb hc, fun _ _ => hostReadTbl_below hb hc,
    fun _ => hostReadOut_beyond hb hc⟩, fun h _ => whileIdle_refused h _⟩

/-! ## Placing bytes -/

/-- A byte placed in one buffer of an array changes no other byte of the array. -/
theorem putByte_read {ms : List Memory} (hwf : ms.all Memory.wf = true) {k : Nat} (hk : k < ms.length) (a : Nat) (v : Byte)
    (j x : Nat) :
    ((putByte ms k a v).getD j []).read x = if j = k ∧ x = a then v else (ms.getD j []).read x := by
  rw [putByte_getD hk]
  by_cases hj : j = k
  · subst hj
    simp only [if_true, true_and]
    exact Memory.read_write (getD_wf hwf j) a v x
  · simp [hj]

section
variable {s : State} {a : Nat} (hb : s.status ≠ .busy) (hc : s.cmd = none) (ha : a < 2 ^ 32) (v : Byte)
include hb hc ha

theorem hostPutIn_placed : hostPutIn a v s = .next { s with inBuf := s.inBuf.write a v } :=
  whileIdle_next.mpr ⟨⟨hb, hc⟩, addressed_next.mpr ⟨ha, rfl⟩⟩

theorem hostPutOut_placed : hostPutOut a v s = .next { s with out := s.out.write a v, jobs := s.jobs + 1 } :=
  whileIdle_next.mpr ⟨⟨hb, hc⟩, addressed_next.mpr ⟨ha, rfl⟩⟩

theorem hostPutPal_placed {k : Nat} (hk : k < s.cfg.palMax) :
    hostPutPal k a v s = .next { s with pal := putByte s.pal k a v } :=
  whileIdle_next.mpr ⟨⟨hb, hc⟩, indexed_next.mpr ⟨hk, addressed_next.mpr ⟨ha, rfl⟩⟩⟩

theorem hostPutTbl_placed {k : Nat} (hk : k < s.cfg.palMax) :
    hostPutTbl k a v s = .next { s with tbl := putByte s.tbl k a v, jobs := s.jobs + 1 } :=
  whileIdle_next.mpr ⟨⟨hb, hc⟩, indexed_next.mpr ⟨hk, addressed_next.mpr ⟨ha, rfl⟩⟩⟩

end

/-- Settles O60: each access writes one byte of one canonical buffer, which the host's read then answers. -/
theorem bufferBytesArePlaced : Obligations.BufferBytesArePlaced := by
  refine fun s a v => ⟨fun hs hb hc ha => ?placed, fun h => ?refused⟩
  case refused =>
    exact ⟨whileIdle_refused h _, whileIdle_refused h _, fun k => ⟨whileIdle_refused h _, whileIdle_refused h _⟩⟩
  case placed =>
    obtain ⟨hin, hout, hpal, htbl, -, -, hpn, htn⟩ := (State.buffersWf_iff s).mp hs.1
    refine ⟨⟨_, hostPutIn_placed hb hc ha v, Memory.read_write hin a v, rfl⟩,
      ⟨_, hostPutOut_placed hb hc ha v, Memory.read_write hout a v, rfl, fun hlen => ?out⟩,
      fun k hk => ⟨⟨_, hostPutPal_placed hb hc ha v hk, putByte_read hpal (hpn ▸ hk) a v, rfl⟩,
        ⟨_, hostPutTbl_placed hb hc ha v hk, putByte_read htbl (htn ▸ hk) a v, rfl, fun hlen => ?tbl⟩⟩⟩
    case out =>
      exact Eq.trans (hostReadOut_below hb hc hlen) (congrArg _ ((Memory.read_write hout a v a).trans (if_pos rfl)))
    case tbl =>
      exact Eq.trans (hostReadTbl_below hb hc hk hlen)
        (congrArg _ ((putByte_read htbl (htn ▸ hk) a v k a).trans (if_pos ⟨rfl, rfl⟩)))

end Sys2Proof.Machine
end

section
/-! SUPPORT. The families of the opcode table, and which operation the codes of a descriptor word select in each slot
(30_encoding.md rules R77 to R85, R92). -/

namespace Sys2Proof

/-! ## The families of the opcode table -/

/-- Every row of the opcode table, by family: what holds of each family's operations holds of every instruction. -/
theorem Instr.byFamily {P : Instr → Prop} (start : P .start) (clear : P .clear) (validate : P .validate)
    (chdec : ∀ lay f, P (chdecOf lay f)) (idx : ∀ bpp, P (.idx bpp)) (chenc : ∀ lay f, P (chencOf lay f))
    (blk : ∀ k ro, P (blkOf k ro)) (reord : ∀ ro, P (reordOf ro)) (filt : ∀ fi, P (filtOf fi)) : ∀ i, P i
  | .start => start
  | .clear => clear
  | .validate => validate
  | .chdecRgb f => chdec .rgb f
  | .chdecRgba f => chdec .rgba f
  | .chdecBgra f => chdec .bgra f
  | .chdecArgb f => chdec .argb f
  | .chdecAbgr f => chdec .abgr f
  | .chdecRgbx f => chdec .rgbx f
  | .chdecBgrx f => chdec .bgrx f
  | .chdecXrgb f => chdec .xrgb f
  | .chdecXbgr f => chdec .xbgr f
  | .chdecL f => chdec .l f
  | .chdecA f => chdec .a f
  | .chdecLa f => chdec .la f
  | .chdecAl f => chdec .al f
  | .idx bpp => idx bpp
  | .chencRgb f => chenc .rgb f
  | .chencRgba f => chenc .rgba f
  | .chencBgra f => chenc .bgra f
  | .chencArgb f => chenc .argb f
  | .chencAbgr f => chenc .abgr f
  | .chencRgbx f => chenc .rgbx f
  | .chencBgrx f => chenc .bgrx f
  | .chencXrgb f => chenc .xrgb f
  | .chencXbgr f => chenc .xbgr f
  | .chencL f => chenc .l f
  | .chencA f => chenc .a f
  | .chencLa f => chenc .la f
  | .chencAl f => chenc .al f
  | .blkEtc1 ro => blk .etc1 ro
  | .blkEtc1a4 ro => blk .etc1a4 ro
  | .blkDxt1 ro => blk .dxt1 ro
  | .blkDxt1alt ro => blk .dxt1alt ro
  | .blkDxt1psp ro => blk .dxt1psp ro
  | .blkDxt3 ro => blk .dxt3 ro
  | .blkDxt3psp ro => blk .dxt3psp ro
  | .blkDxt5 ro => blk .dxt5 ro
  | .blkDxt5psp ro => blk .dxt5psp ro
  | .blkRgtc1 ro => blk .rgtc1 ro
  | .blkRgtc1s ro => blk .rgtc1s ro
  | .blkRgtc2 ro => blk .rgtc2 ro
  | .blkRgtc2s ro => blk .rgtc2s ro
  | .blkBptc ro => blk .bptc ro
  | .blkBptcf ro => blk .bptcf ro
  | .blkBptcsf ro => blk .bptcsf ro
  | .blkPvrt2 ro => blk .pvrt2 ro
  | .blkPvrt4 ro => blk .pvrt4 ro
  | .reordLinear => reord .linear
  | .reordTile3ds => reord .tile3ds
  | .reordMorton => reord .morton
  | .reordPsp => reord .psp
  | .reordSwitch => reord .switch
  | .filtNone => filt .none
  | .filtDither => filt .dither

@[simp] theorem chdecOf_wf (lay : Layout) (f : PlainFmt) : (chdecOf lay f).wf = f.wf lay := by cases lay <;> rfl
@[simp] theorem chencOf_wf (lay : Layout) (f : PlainFmt) : (chencOf lay f).wf = f.wf lay := by cases lay <;> rfl

/-! ## Reserved codes -/

@[simp] theorem specialOf_zero : specialOf 0 = none := rfl

/-- Codes 0 and 15 to 31 name no layout (30_encoding.md rule R79). -/
theorem chOf_eq_none {n : Nat} (h : n = 0 ∨ 14 < n) : chOf n = none := by
  rcases h with rfl | h
  · rfl
  · obtain ⟨m, rfl⟩ : ∃ m, n = m + 15 := ⟨n - 15, by omega⟩
    rfl

theorem chOf_indexed {n : Nat} (h : chOf n = some .indexed) : n = 14 := by
  unfold chOf at h
  split at h <;> cases h
  rfl

/-- Codes 0 and 7 name no bpp-class (30_encoding.md rule R78). -/
theorem bppOf_reserved {n : Nat} (h : n = 0 ∨ n = 7) : (bppOf n).legal = false ∧ (bppOf n).indexable = false := by
  rcases h with rfl | rfl <;> exact ⟨rfl, rfl⟩

theorem reorderOf_eq_none {n : Nat} (h : 4 < n) : reorderOf n = none := by
  obtain ⟨m, rfl⟩ : ∃ m, n = m + 5 := ⟨n - 5, by omega⟩
  rfl

theorem filterOf_eq_none {n : Nat} (h : 1 < n) : filterOf n = none := by
  obtain ⟨m, rfl⟩ : ∃ m, n = m + 2 := ⟨n - 2, by omega⟩
  rfl

/-! ## What the codes of a descriptor word select -/

/-- A descriptor word without a code that rule R85 of 30_encoding.md refuses in every slot, and the reordering and the
filter it names. -/
structure LegalCodes (d : DescWord) (ro : Reorder) (fi : Filter) : Prop where
  reserved : descReserved d = 0
  special : descSpecial d ≤ 18
  reorder : reorderOf (descReorder d) = some ro
  filter : filterOf (descFilter d) = some fi

section
variable {d : DescWord} {ro : Reorder} {fi : Filter} (h : LegalCodes d ro fi)
include h

theorem LegalCodes.decode_inOp : decode .inOp d = decodeInOp d ro := by
  simp [decode, h.reserved, Nat.not_lt.mpr h.special, h.reorder, h.filter]

theorem LegalCodes.decode_inReorder : decode .inReorder d = .ok (reordOf ro) := by
  simp [decode, h.reserved, Nat.not_lt.mpr h.special, h.reorder, h.filter]

theorem LegalCodes.decode_outFilter : decode .outFilter d = .ok (filtOf fi) := by
  simp [decode, h.reserved, Nat.not_lt.mpr h.special, h.reorder, h.filter]

theorem LegalCodes.decode_outPack : decode .outPack d = decodeOutPack d := by
  simp [decode, h.reserved, Nat.not_lt.mpr h.special, h.reorder, h.filter]

end

/-- A word that is an instruction of a descriptor slot has legal codes. -/
theorem legalCodes_of_decode {sl : Slot} {d : DescWord} {i : Instr}
    (hs : sl = .inOp ∨ sl = .inReorder ∨ sl = .outFilter ∨ sl = .outPack) (h : decode sl d = .ok i) :
    ∃ ro fi, LegalCodes d ro fi := by
  rcases hs with rfl | rfl | rfl | rfl
  all_goals
    dsimp only [decode] at h
    split at h <;> [cases h; split at h <;> [cases h; split at h]]
    · cases h
    · cases h
    · rename_i hres hsp _ _ ro fi hro hfi
      exact ⟨ro, fi, Decidable.of_not_not hres, Nat.not_lt.mp hsp, hro, hfi⟩

theorem decodeInOp_special {d : DescWord} {k : Special} (h : specialOf (descSpecial d) = some k) (ro : Reorder) :
    decodeInOp d ro = .ok (blkOf k ro) := by
  simp [decodeInOp, h]

theorem decodeInOp_plain {d : DescWord} {lay : Layout} (h0 : descSpecial d = 0)
    (hch : chOf (descCh d) = some (.plain lay)) (ro : Reorder) : decodeInOp d ro = .ok (chdecOf lay (plainOf d)) := by
  simp [decodeInOp, h0, hch]

theorem decodeInOp_indexed {d : DescWord} (h0 : descSpecial d = 0) (hch : chOf (descCh d) = some .indexed)
    (ro : Reorder) : decodeInOp d ro = .ok (.idx (bppOf (descBpp d))) := by
  simp [decodeInOp, h0, hch]

theorem decodeInOp_reserved {d : DescWord} (h0 : descSpecial d = 0) (hch : chOf (descCh d) = none) (ro : Reorder) :
    decodeInOp d ro = .error .reservedLayout := by
  simp [decodeInOp, h0, hch]

theorem decodeOutPack_plain {d : DescWord} {lay : Layout} (h0 : descSpecial d = 0)
    (hch : chOf (descCh d) = some (.plain lay)) : decodeOutPack d = .ok (chencOf lay (plainOf d)) := by
  simp [decodeOutPack, h0, hch]

theorem decodeOutPack_indexed {d : DescWord} (h0 : descSpecial d = 0) (hch : chOf (descCh d) = some .indexed) :
    decodeOutPack d = .error .noOutputOperation := by
  simp [decodeOutPack, h0, hch]

theorem decodeOutPack_reserved {d : DescWord} (h0 : descSpecial d = 0) (hch : chOf (descCh d) = none) :
    decodeOutPack d = .error .reservedLayout := by
  simp [decodeOutPack, h0, hch]

end Sys2Proof
end

section
/-! SUPPORT. The words that encode writes, and that decoding them gives the instruction back (30_encoding.md rules R76,
R84, R93). -/

namespace Sys2Proof

/-! ## The words as numbers -/

/-- A word below the reserved bits fits its register (30_encoding.md rules R76, R85). -/
theorem encode_toNat {i : Instr} (h : encodeNat i < 2 ^ 40) : (encode i).toNat = encodeNat i := by
  rw [encode, BitVec.toNat_ofNat, Nat.mod_eq_of_lt (h.trans (by decide))]

theorem chdecOf_encode_toNat {lay : Layout} {f : PlainFmt} (hf : f.wf lay = true) :
    (encode (chdecOf lay f)).toNat = plainWord lay.code f := by
  have e : encodeNat (chdecOf lay f) = plainWord lay.code f := by cases lay <;> rfl
  rw [encode_toNat (e ▸ Laws.plainWord_fits hf), e]

theorem chencOf_encode_toNat {lay : Layout} {f : PlainFmt} (hf : f.wf lay = true) :
    (encode (chencOf lay f)).toNat = plainWord lay.code f := by
  have e : encodeNat (chencOf lay f) = plainWord lay.code f := by cases lay <;> rfl
  rw [encode_toNat (e ▸ Laws.plainWord_fits hf), e]

theorem blkOf_encode_toNat (k : Special) (ro : Reorder) : (encode (blkOf k ro)).toNat = specialWord k ro := by
  have e : encodeNat (blkOf k ro) = specialWord k ro := by cases k <;> rfl
  rw [encode_toNat (e ▸ Laws.specialWord_fits k ro), e]

/-! ## The fields of a plain word -/

theorem Bpp.code_lt (b : Bpp) : b.code < 2 ^ 3 := by cases b <;> decide
theorem Layout.code_lt (lay : Layout) : lay.code < 2 ^ 5 := by cases lay <;> decide
theorem Force.code_lt (f : Force) : f.code < 2 ^ 1 := by cases f <;> decide

theorem PlainFmt.wf_widths {lay : Layout} {f : PlainFmt} (h : f.wf lay = true) :
    f.rbits ≤ 16 ∧ f.gbits ≤ 16 ∧ f.bbits ≤ 16 ∧ f.abits ≤ 16 := by
  simp only [PlainFmt.wf, PlainFmt.widthsLegal, Bool.and_eq_true, decide_eq_true_eq, and_assoc] at h
  obtain ⟨-, hr, hg, hb, ha, -⟩ := h
  exact ⟨hr, hg, hb, ha⟩

section
variable {lay : Layout} {f : PlainFmt} {d : DescWord} (hf : f.wf lay = true) (hd : d.toNat = plainWord lay.code f)
include hf hd

/-- Every field of a plain word holds what was put there (30_encoding.md rule R76). -/
theorem plainWord_fields :
    (descBpp d = f.bpp.code ∧ descCh d = lay.code ∧ descForce d = f.force.code) ∧
    (descRbits d = f.rbits ∧ descGbits d = f.gbits ∧ descBbits d = f.bbits ∧ descAbits d = f.abits) ∧
    descSpecial d = 0 ∧ descReorder d = 0 ∧ descFilter d = 0 ∧ descReserved d = 0 := by
  have widths := PlainFmt.wf_widths hf
  have bpp := f.bpp.code_lt
  have ch := lay.code_lt
  have force := f.force.code_lt
  simp only [descBpp, descCh, descForce, descRbits, descGbits, descBbits, descAbits, descSpecial, descReorder,
    descFilter, descReserved, bitsOf, hd, plainWord]
  omega

theorem plainWord_legalCodes : LegalCodes d .linear .none := by
  obtain ⟨-, -, hsp, hro, hfi, hres⟩ := plainWord_fields hf hd
  exact ⟨hres, hsp ▸ Nat.zero_le 18, congrArg reorderOf hro, congrArg filterOf hfi⟩

/-- A plain word names its layout and its format (30_encoding.md rules R77, R84). -/
theorem plainWord_operands : descSpecial d = 0 ∧ chOf (descCh d) = some (.plain lay) ∧ plainOf d = f := by
  obtain ⟨⟨hbpp, hch, hfo⟩, ⟨hr, hg, hb, ha⟩, hsp, -⟩ := plainWord_fields hf hd
  refine ⟨hsp, by rw [hch, chOf_code], ?_⟩
  simp only [plainOf, hbpp, hfo, hr, hg, hb, ha, bppOf_code, forceOf_code]

theorem decode_inOp_plainWord : decode .inOp d = .ok (chdecOf lay f) := by
  obtain ⟨h0, hch, hfmt⟩ := plainWord_operands hf hd
  rw [(plainWord_legalCodes hf hd).decode_inOp, decodeInOp_plain h0 hch, hfmt]

theorem decode_outPack_plainWord : decode .outPack d = .ok (chencOf lay f) := by
  obtain ⟨h0, hch, hfmt⟩ := plainWord_operands hf hd
  rw [(plainWord_legalCodes hf hd).decode_outPack, decodeOutPack_plain h0 hch, hfmt]

end

/-! ## The fields of a special word -/

theorem Special.code_le (k : Special) : k.code ≤ 18 := by cases k <;> decide
theorem Reorder.code_le (ro : Reorder) : ro.code ≤ 4 := by cases ro <;> decide

section
variable {k : Special} {ro : Reorder} {d : DescWord} (hd : d.toNat = specialWord k ro)
include hd

theorem specialWord_fields :
    descSpecial d = k.code ∧ descReorder d = ro.code ∧ descFilter d = 0 ∧ descReserved d = 0 := by
  have special := k.code_le
  have reorder := ro.code_le
  simp only [descSpecial, descReorder, descFilter, descReserved, bitsOf, hd, specialWord]
  omega

theorem decode_inOp_specialWord : decode .inOp d = .ok (blkOf k ro) := by
  obtain ⟨hsp, hro, hfi, hres⟩ := specialWord_fields hd
  have legal : LegalCodes d ro .none :=
    ⟨hres, hsp ▸ k.code_le, by rw [hro, reorderOf_code], congrArg filterOf hfi⟩
  rw [legal.decode_inOp, decodeInOp_special (by rw [hsp, specialOf_code])]

end

/-! ## The statements -/

/-- Settles O1, family by family: the word's fields are the operands, and its codes select the operation. -/
theorem decodeOfEncode : Obligations.DecodeOfEncode := by
  intro i hi
  cases i using Instr.byFamily with
  | start | clear | validate => rfl
  | chdec lay f =>
    rw [chdecOf_wf] at hi
    rw [chdecOf_slot]
    exact decode_inOp_plainWord hi (chdecOf_encode_toNat hi)
  | idx bpp => cases bpp <;> rfl
  | chenc lay f =>
    rw [chencOf_wf] at hi
    rw [chencOf_slot]
    exact decode_outPack_plainWord hi (chencOf_encode_toNat hi)
  | blk k ro =>
    rw [blkOf_slot]
    exact decode_inOp_specialWord (blkOf_encode_toNat k ro)
  | reord ro => cases ro <;> rfl
  | filt fi => cases fi <;> rfl

/-- Settles O2: seven of the words are the encodings of their instructions; in the other two, which have fields of
another operation set, the reordering and the filter are legal codes. -/
theorem specWordsDecode : Obligations.SpecWordsDecode := by
  have tiled : LegalCodes 0x0000008400000852 .tile3ds .none := ⟨rfl, by decide, rfl, rfl⟩
  have dithered : LegalCodes 0x000000200014c50b .linear .dither := ⟨rfl, by decide, rfl, rfl⟩
  exact ⟨decodeOfEncode .start rfl, decodeOfEncode .clear rfl, decodeOfEncode (.chdecRgb ⟨.b16, 5, 6, 5, 0, .max⟩) rfl,
    decodeOfEncode (.chdecRgba ⟨.b16, 5, 5, 5, 1, .zero⟩) rfl, decodeOfEncode (.idx .b4) rfl,
    decodeOfEncode (.blkDxt1 .morton) rfl, tiled.decode_inReorder, dithered.decode_outFilter,
    decodeOfEncode (.chencArgb ⟨.b32, 8, 8, 8, 8, .max⟩) rfl⟩

end Sys2Proof
end

section
/-! SUPPORT. Words with reserved codes (30_encoding.md rules R78 to R82, R85). -/

namespace Sys2Proof

/-- A word that is no instruction of a slot is refused by name. -/
theorem decode_error_of_not_ok {sl : Slot} {d : DescWord} (h : ∀ i, decode sl d ≠ .ok i) :
    ∃ e, decode sl d = .error e := by
  cases hd : decode sl d with
  | ok i => exact absurd hd (h i)
  | error e => exact ⟨e, rfl⟩

/-- A word without a special kind that is an operation names a layout, whose operands are the word's fields. -/
theorem decode_layout {sl : Slot} {d : DescWord} {i : Instr} (hs : sl = .inOp ∨ sl = .outPack) (h0 : descSpecial d = 0)
    (h : decode sl d = .ok i) :
    (∃ lay, chOf (descCh d) = some (.plain lay) ∧ i.wf = (plainOf d).wf lay) ∨
      (chOf (descCh d) = some .indexed ∧ i.wf = (bppOf (descBpp d)).indexable) := by
  rcases hs with rfl | rfl
  · obtain ⟨ro, fi, legal⟩ := legalCodes_of_decode (.inl rfl) h
    rw [legal.decode_inOp] at h
    cases hch : chOf (descCh d) with
    | none => rw [decodeInOp_reserved h0 hch] at h; cases h
    | some c =>
      cases c with
      | plain lay =>
        rw [decodeInOp_plain h0 hch] at h
        cases h
        exact .inl ⟨lay, rfl, chdecOf_wf lay _⟩
      | indexed =>
        rw [decodeInOp_indexed h0 hch] at h
        cases h
        exact .inr ⟨rfl, rfl⟩
  · obtain ⟨ro, fi, legal⟩ := legalCodes_of_decode (.inr (.inr (.inr rfl))) h
    rw [legal.decode_outPack] at h
    cases hch : chOf (descCh d) with
    | none => rw [decodeOutPack_reserved h0 hch] at h; cases h
    | some c =>
      cases c with
      | plain lay =>
        rw [decodeOutPack_plain h0 hch] at h
        cases h
        exact .inl ⟨lay, rfl, chencOf_wf lay _⟩
      | indexed => rw [decodeOutPack_indexed h0 hch] at h; cases h

theorem PlainFmt.wf_of_illegal_bpp {lay : Layout} {f : PlainFmt} (h : f.bpp.legal = false) : f.wf lay = false := by
  simp [PlainFmt.wf, h]

theorem PlainFmt.wf_of_wide {lay : Layout} {f : PlainFmt}
    (h : 16 < f.rbits ∨ 16 < f.gbits ∨ 16 < f.bbits ∨ 16 < f.abits) : f.wf lay = false := by
  refine Bool.eq_false_iff.mpr fun hw => ?_
  have widths := PlainFmt.wf_widths hw
  omega

/-- Settles O3: an instruction of a descriptor slot has legal codes, and one without a special kind names a layout. -/
theorem reservedWordsRefused : Obligations.ReservedWordsRefused := by
  refine fun sl d hs => ⟨fun hcode => ?code, fun hop h0 hch => ?layout, fun hop h0 hfield i hi => ?field⟩
  case code =>
    refine decode_error_of_not_ok fun i hi => ?_
    obtain ⟨ro, fi, hres, hsp, hro, hfi⟩ := legalCodes_of_decode hs hi
    rcases hcode with h | h | h | h
    · exact h hres
    · exact absurd hsp (Nat.not_le.mpr h)
    · simp [reorderOf_eq_none h] at hro
    · simp [filterOf_eq_none h] at hfi
  case layout =>
    refine decode_error_of_not_ok fun i hi => ?_
    rcases decode_layout hop h0 hi with ⟨lay, hlay, -⟩ | ⟨hidx, -⟩
    · simp [chOf_eq_none hch] at hlay
    · simp [chOf_eq_none hch] at hidx
  case field =>
    rw [← or_assoc] at hfield
    rcases decode_layout hop h0 hi with ⟨lay, -, hwf⟩ | ⟨hidx, hwf⟩ <;> rw [hwf]
    · rcases hfield with hbpp | ⟨-, hwide⟩
      · exact PlainFmt.wf_of_illegal_bpp (bppOf_reserved hbpp).1
      · exact PlainFmt.wf_of_wide hwide
    · rcases hfield with hbpp | ⟨hne, -⟩
      · exact (bppOf_reserved hbpp).2
      · exact absurd (chOf_indexed hidx) hne

end Sys2Proof
end

section
/-! SUPPORT. What `VALIDATE` lets through: a descriptor word and a palette that pass their checks are the legal ones
(41_descriptor_validator.md rules R138 to R148), and what a decode stage leaves alone. -/

namespace Sys2Proof

/-! ## The codes of a legal word -/

theorem bppOf_legal_iff {n : Nat} : (bppOf n).legal = true ↔ 1 ≤ n ∧ n ≤ 6 := by
  by_cases h : n ≤ 6
  · interval_cases n <;> decide
  · obtain ⟨m, rfl⟩ : ∃ m, n = m + 7 := ⟨n - 7, by omega⟩
    exact ⟨nofun, fun h => by omega⟩

theorem bppOf_indexable_iff {n : Nat} : (bppOf n).indexable = true ↔ 1 ≤ n ∧ n ≤ 2 := by
  by_cases h : n ≤ 6
  · interval_cases n <;> decide
  · obtain ⟨m, rfl⟩ : ∃ m, n = m + 7 := ⟨n - 7, by omega⟩
    exact ⟨nofun, fun h => by omega⟩

theorem bppOf_eq_b4_iff {n : Nat} : bppOf n = .b4 ↔ n = 1 := by
  by_cases h : n ≤ 6
  · interval_cases n <;> decide
  · obtain ⟨m, rfl⟩ : ∃ m, n = m + 7 := ⟨n - 7, by omega⟩
    exact ⟨nofun, fun h => by omega⟩

/-- The codes 1 to 14 name a layout (30_encoding.md rule R79). -/
theorem chOf_isSome_iff {n : Nat} : (chOf n).isSome = true ↔ 1 ≤ n ∧ n ≤ 14 := by
  by_cases h : n ≤ 14
  · interval_cases n <;> decide
  · rw [chOf_eq_none (.inr (by omega))]
    exact ⟨nofun, fun h => by omega⟩

theorem chOf_eq_indexed_iff {n : Nat} : chOf n = some .indexed ↔ n = 14 :=
  ⟨chOf_indexed, fun h => h ▸ rfl⟩

theorem reorderOf_isSome {n : Nat} (h : n ≤ 4) : ∃ ro, reorderOf n = some ro := by
  interval_cases n <;> exact ⟨_, rfl⟩

theorem specialOf_eq_none {n : Nat} (h : n ≤ 18) (hs : specialOf n = none) : n = 0 := by
  interval_cases n
  · rfl
  all_goals cases hs

theorem filterOf_isSome {n : Nat} (h : n ≤ 1) : ∃ fi, filterOf n = some fi := by
  interval_cases n <;> exact ⟨_, rfl⟩

theorem PlainFmt.widthsLegal_iff {f : PlainFmt} :
    f.widthsLegal = true ↔ f.rbits ≤ 16 ∧ f.gbits ≤ 16 ∧ f.bbits ≤ 16 ∧ f.abits ≤ 16 := by
  simp only [PlainFmt.widthsLegal, Bool.and_eq_true, decide_eq_true_eq, and_assoc]

theorem PlainFmt.wf_iff {lay : Layout} {f : PlainFmt} :
    f.wf lay = true ↔ f.bpp.legal = true ∧ (f.rbits ≤ 16 ∧ f.gbits ≤ 16 ∧ f.bbits ≤ 16 ∧ f.abits ≤ 16) ∧
      (∀ c ∈ lay.channels, c ≠ .x → 0 < f.width c) ∧ (lay.channels.map f.width).sum ≤ f.bpp.bits := by
  simp only [PlainFmt.wf, PlainFmt.widthsLegal_iff, PlainFmt.namedWide, PlainFmt.sumFits, Bool.and_eq_true,
    decide_eq_true_eq, List.all_eq_true, Bool.or_eq_true, beq_iff_eq, and_assoc, ne_eq, or_iff_not_imp_left]

end Sys2Proof

namespace Sys2Proof.Machine

/-! ## Words and palettes that pass -/

theorem checkIndexed_eq_none_iff {f : PlainFmt} :
    checkIndexed f = none ↔ f.bpp.legal = true ∧ f.widthsLegal = true ∧ f.bpp.indexable = true := by
  simp [checkIndexed, ite_some_eq_none_iff]

/-- A word without the codes that `check_word` refuses in every word (41_descriptor_validator.md rules R139 to R141). -/
def codesLegal (d : DescWord) : Prop :=
  descReserved d = 0 ∧ descSpecial d ≤ 18 ∧ descReorder d ≤ 4 ∧ descFilter d ≤ 1

theorem wordSub_special {d : DescWord} (h : descSpecial d ≠ 0) : wordSub d = none ↔ codesLegal d := by
  simp only [wordSub, ite_some_eq_none_iff, if_pos h]
  simp [codesLegal]

theorem wordSub_reserved {d : DescWord} (h0 : descSpecial d = 0) (hch : chOf (descCh d) = none) : wordSub d ≠ none := by
  simp only [wordSub, ne_eq, h0, hch, not_true_eq_false, if_false, ite_some_eq_none_iff]
  simp

theorem wordSub_plain {d : DescWord} {lay : Layout} (h0 : descSpecial d = 0)
    (hch : chOf (descCh d) = some (.plain lay)) :
    wordSub d = none ↔ codesLegal d ∧ (plainOf d).wf lay = true := by
  have legal : (plainOf d).wf lay = true → (bppOf (descBpp d)).legal = true := PlainFmt.wf_legal
  simp only [wordSub, ne_eq, h0, hch, not_true_eq_false, if_false, ite_some_eq_none_iff]
  simp [codesLegal, h0, checkPlain_eq_none_iff, and_assoc, and_iff_right_of_imp legal]

theorem wordSub_indexed {d : DescWord} (h0 : descSpecial d = 0) (hch : chOf (descCh d) = some .indexed) :
    wordSub d = none ↔ codesLegal d ∧ checkIndexed (plainOf d) = none := by
  have legal : checkIndexed (plainOf d) = none → (bppOf (descBpp d)).legal = true :=
    fun h => (checkIndexed_eq_none_iff.mp h).1
  simp only [wordSub, ne_eq, h0, hch, not_true_eq_false, if_false, ite_some_eq_none_iff]
  simp [codesLegal, h0, and_assoc, and_iff_right_of_imp legal]

/-- A legal plain or indexed word names a layout, and its fields are legal for it. -/
theorem wordLegal_iff_of_layout {d : DescWord} (h0 : descSpecial d = 0) :
    wordLegal d ↔ codesLegal d ∧ ∃ ch, chOf (descCh d) = some ch ∧
      (∀ lay, ch = .plain lay → (plainOf d).wf lay = true) ∧ (ch = .indexed → checkIndexed (plainOf d) = none) := by
  have widths : (plainOf d).rbits = descRbits d ∧ (plainOf d).gbits = descGbits d ∧ (plainOf d).bbits = descBbits d ∧
      (plainOf d).abits = descAbits d := ⟨rfl, rfl, rfl, rfl⟩
  have layout := chOf_isSome_iff (n := descCh d)
  have index := chOf_eq_indexed_iff (n := descCh d)
  have legal : (plainOf d).bpp.legal = true ↔ 1 ≤ descBpp d ∧ descBpp d ≤ 6 := bppOf_legal_iff
  have indexable : (plainOf d).bpp.indexable = true ↔ 1 ≤ descBpp d ∧ descBpp d ≤ 2 := bppOf_indexable_iff
  have bits : (plainOf d).bpp.bits = (bppOf (descBpp d)).bits := rfl
  simp only [wordLegal, codesLegal, h0, and_assoc, forall_const]
  cases hch : chOf (descCh d) with
  | none =>
    simp only [hch] at layout
    grind
  | some ch =>
    simp only [hch, Option.isSome_some, true_iff, Option.some.injEq] at layout index
    cases ch with
    | plain lay =>
      grind [PlainFmt.wf_iff]
    | indexed =>
      grind [checkIndexed_eq_none_iff, PlainFmt.widthsLegal_iff]

/-- A descriptor word passes its check exactly where it is legal. -/
theorem wordSub_eq_none_iff {d : DescWord} : wordSub d = none ↔ wordLegal d := by
  by_cases h0 : descSpecial d = 0
  · rw [wordLegal_iff_of_layout h0]
    cases hch : chOf (descCh d) with
    | none => simp [wordSub_reserved h0 hch]
    | some ch =>
      cases ch with
      | plain lay => simp [wordSub_plain h0 hch]
      | indexed => simp [wordSub_indexed h0 hch]
  · rw [wordSub_special h0]
    simp [wordLegal, codesLegal, h0]

theorem checkBytes_of_le {s : State} {n : Nat} (h : n ≤ s.inLen.toNat) : checkBytes s n = none :=
  if_neg (Nat.not_lt.mpr h)

/-- A legal palette passes its check (41_descriptor_validator.md rule R148). -/
theorem checkPalette_of_legal {s : State} {e : Endian} (he : endianOf s.palEnd = some e) (h : s.paletteLegal) :
    checkPalette s = none := by
  obtain ⟨hword, -, hcount, hmax, hsp, hch, hbpp⟩ := h
  have shape : paletteShape s = true := by
    simp only [paletteShape, Bool.and_eq_true, bne_iff_ne, beq_iff_eq, decide_eq_true_eq, ne_eq, bppOf_eq_b4_iff]
    omega
  simp [checkPalette, checkWord, wordSub_eq_none_iff.mpr hword, checkEndian, he, shape]

/-! ## The decode stages -/

theorem State.decoded_midJob (s : State) (px : List Pixel) (n : Nat) (tl : List Pixel) :
    s.midJob (s.decoded px n tl) := by
  simp [State.midJob, State.sameInputs, State.sameOutputs, State.sameStatus]

theorem State.decodedIdx_midJob (s : State) (ix : List Byte) (tb : List (List Pixel)) (n : Nat) :
    s.midJob (s.decodedIdx ix tb n) := by
  simp [State.midJob, State.sameInputs, State.sameOutputs, State.sameStatus]

end Sys2Proof.Machine
end

section
/-! SUPPORT. The channel codec and the indexed path on legal operands (42_channel_codec.md rules R170, R188). -/

namespace Sys2Proof.Machine

theorem chdecStage_of_wf {lay : Layout} {f : PlainFmt} {e : Endian} {s : State} (hf : f.wf lay = true)
    (he : endianOf s.inEnd = some e) (hn : sampleBytes s.area f.bpp.bits ≤ s.inLen.toNat) :
    chdecStage lay f s =
      .next (s.decoded (chdec s.cfg s.inBuf lay f e s.area) (sampleBytes s.area f.bpp.bits) s.tile) := by
  simp only [chdecStage, checkPlain_eq_none_iff.mpr hf, he, checkBytes_of_le hn]

theorem chdec_length (c : Config) (m : Memory) (lay : Layout) (f : PlainFmt) (e : Endian) (n : Nat) :
    (chdec c m lay f e n).length = n := by
  simp [chdec, readSamples]

/-- Settles O25. -/
theorem chdecCompletes : Obligations.ChdecCompletes := by
  intro lay f e s hf he hn
  refine ⟨_, (exec_chdecOf lay f s).trans (chdecStage_of_wf hf he hn), rfl, chdec_length .., fun i hi => ?canon, rfl,
    rfl, rfl, rfl, State.decoded_midJob ..⟩
  case canon => simp [chdec, readSamples, hi]

/-! ## Indices that every palette covers -/

theorem foldl_max_lt {n m : Nat} {ix : List Byte} (hm : m < n) (h : ∀ b ∈ ix, b.toNat < n) :
    ix.foldl (fun m b => max m b.toNat) m < n := by
  induction ix generalizing m with
  | nil => exact hm
  | cons b ix ih => exact ih (max_lt hm (h b List.mem_cons_self)) fun c hc => h c (List.mem_cons_of_mem b hc)

/-- No PaletteRangeError where every palette has an entry for every index (42_channel_codec.md rule R192). -/
theorem paletteErr_eq_none {s : State} {inBits : Nat} {ix : List Byte}
    (h : ∀ k, k < s.palCount.toNat → ∀ b ∈ ix, b.toNat < s.entries inBits k) : s.paletteErr inBits ix = none := by
  cases ix with
  | nil => rfl
  | cons b ix =>
    have covered : ∀ k, k < s.palCount.toNat → maxIndex (b :: ix) < s.entries inBits k := fun k hk =>
      foldl_max_lt (Nat.zero_lt_of_lt (h k hk b List.mem_cons_self)) (h k hk)
    simpa [State.paletteErr] using covered

theorem indexSub_of_indexable {b : Bpp} (h : b.indexable = true) : indexSub b = none := by
  cases b with
  | b4 | b8 => rfl
  | _ => cases h

theorem State.palLayout_of_plain {s : State} {lay : Layout} {e : Endian}
    (hl : chOf (descCh s.palFmt) = some (.plain lay)) (he : endianOf s.palEnd = some e) :
    s.palLayout = some (lay, e) := by
  simp only [State.palLayout, hl, he]

/-- Settles O30. -/
theorem idxCompletes : Obligations.IdxCompletes := by
  intro b e pe lay s hb he hpe hpal hlay hn hcover
  have noErr : s.paletteErr b.bits (idxSamples s.cfg s.inBuf s.area b.bits e) = none := by
    refine paletteErr_eq_none fun k hk x hx => ?_
    simp only [idxSamples, readSamples, List.mem_map, List.mem_range] at hx
    obtain ⟨_, ⟨i, hi, rfl⟩, rfl⟩ := hx
    exact (Nat.mod_le _ _).trans_lt (hcover k hk i hi)
  have run : exec (.idx b) s =
      .next (s.decodedIdx (idxSamples s.cfg s.inBuf s.area b.bits e) (s.palTables lay pe b.bits)
        (sampleBytes s.area b.bits)) := by
    change execIdx b s = _
    simp only [execIdx, indexSub_of_indexable hb, he, checkPalette_of_legal hpe hpal, State.palLayout_of_plain hlay hpe,
      checkBytes_of_le hn, noErr]
  refine ⟨_, run, rfl, ?idxLength, fun i hi => ?idx, ?tablesLength, fun k hk => ?table, rfl, rfl, rfl,
    State.decodedIdx_midJob ..⟩
  case idxLength => simp [idxSamples, readSamples]
  case idx => simp [idxSamples, readSamples, hi]
  case tablesLength => simp [State.palTables]
  case table => simp [State.palTables, hk]

end Sys2Proof.Machine
end

section
/-! SUPPORT. The block codecs on a whole picture: every tile is whole, every block lands where the map sends it, and the
last one to land on a place stays there (40_pipeline.md rules R116, R117). -/

namespace Sys2Proof.Machine

/-! ## Tiles -/

@[simp] theorem selectColors_length (pal : List Pixel) (sel : Nat) : (selectColors pal sel).length = 16 := by
  simp [selectColors]

@[simp] theorem dxt1Tile_length (cb : ColorBlock) : (dxt1Tile cb).length = 16 := selectColors_length _ _

@[simp] theorem alphaTile_length (cb : ColorBlock) (alphas : List Nat) : (alphaTile cb alphas).length = 16 := by
  simp [alphaTile]

@[simp] theorem selectRamp_length (ramp : List Nat) (sel : Nat) : (selectRamp ramp sel).length = 16 := by
  simp [selectRamp]

@[simp] theorem redTile_length (vs : List Nat) : (redTile vs).length = vs.length := List.length_map _

@[simp] theorem redGreenTile_length (v0 v1 : List Nat) : (redGreenTile v0 v1).length = min v0.length v1.length :=
  List.length_zipWith

@[simp] theorem etc1Tile_length (c : Config) (word : Nat → Nat) (alpha : Nat → Option Nat) :
    (etc1Tile c word alpha).length = 64 := by
  simp [etc1Tile]

/-- A tile of BPTC, the tile of a zero first byte among them (45_bc7.md rules R269, R285). -/
@[simp] theorem bc7_length (c : Config) (v : Nat) : (bc7 c v).length = 16 := by
  unfold bc7
  split
  · exact List.length_replicate
  · split
    · exact List.length_replicate
    · simp [bc7Tile]

/-- A tile of BPTC-Float, the tile of a reserved mode among them (46_bptc_float.md rules R303, R314). -/
@[simp] theorem bptcf_length (c : Config) (signed : Bool) (v : Nat) : (bptcf c signed v).length = 16 := by
  unfold bptcf
  split
  · exact List.length_replicate
  · simp

/-- Settles O49. -/
theorem tilesAreWhole : Obligations.TilesAreWhole := by
  intro c k v hk
  cases k with
  | pvrt2 | pvrt4 => cases hk
  | etc1 | etc1a4 => simp [tileOf, etc1, etc1a4, tileW, tileH]
  | dxt1 | dxt1alt | dxt1psp => simp [tileOf, dxt1, dxt1alt, dxt1psp, tileW, tileH]
  | dxt3 | dxt3psp | dxt5 | dxt5psp => simp [tileOf, dxt3, dxt3psp, dxt5, dxt5psp, tileW, tileH]
  | rgtc1 | rgtc1s => simp [tileOf, rgtc1, rgtc1s, rampBlockU, rampBlockS, tileW, tileH]
  | rgtc2 | rgtc2s => simp [tileOf, rgtc2, rgtc2s, rampBlockU, rampBlockS, tileW, tileH]
  | bptc => exact bc7_length c v
  | bptcf | bptcsf => exact bptcf_length c _ v

/-! ## The operation -/

/-- A kind other than PVRTC is decoded block by block, with the codec of its tile. -/
theorem exec_blkOf_tile {k : Special} (hk : isPvrt k = false) (ro : Reorder) (s : State) :
    exec (blkOf k ro) s = blockStage k (tileOf s.cfg k) ro s := by
  cases k with
  | pvrt2 | pvrt4 => cases hk
  | _ => rfl

/-- The picture a block codec decodes from the whole stream (40_pipeline.md rule R117). -/
def State.blockPicture (s : State) (k : Special) (ro : Reorder) : List Pixel :=
  decodeBlocks s.cfg (tileOf s.cfg k) (tileW k) (blockBytes k) s.w s.h (blocksX k s.w) (blocksY k s.h) ro s.inBuf

theorem exec_blkOf_legal {k : Special} {ro : Reorder} {s : State} (hk : isPvrt k = false)
    (hl : blocksLegal s.cfg k ro s.w s.h) (hn : specialBytes k s.w s.h ≤ s.inLen.toNat) :
    exec (blkOf k ro) s =
      .next (s.decoded (s.blockPicture k ro) (specialBytes k s.w s.h)
        (lastTile (tileOf s.cfg k) (blockBytes k) (blocksX k s.w * blocksY k s.h) s.inBuf s.tile)) := by
  rw [exec_blkOf_tile hk]
  simp only [blockStage, specialSub_eq_none_iff.mpr hl, checkBytes_of_le hn, State.blockPicture]

/-! ## Folds whose last writer wins -/

/-- A fold over `0 .. n-1` in which a step writes `g i` into a cell of its state exactly where `P i`: in the end the
cell holds what the last such step wrote, and its old value where there is none. -/
theorem foldl_range_lastWriter {β γ : Type} {f : β → Nat → β} {cell : β → γ} {P : Nat → Prop} {g : Nat → γ}
    {I : β → Prop} (keep : ∀ b i, I b → I (f b i)) (hit : ∀ b i, I b → P i → cell (f b i) = g i)
    (miss : ∀ b i, I b → ¬ P i → cell (f b i) = cell b) {b : β} (hb : I b) (n : Nat) :
    I ((List.range n).foldl f b) ∧
    (∀ i, i < n → P i → (∀ j, i < j → j < n → ¬ P j) → cell ((List.range n).foldl f b) = g i) ∧
    ((∀ i, i < n → ¬ P i) → cell ((List.range n).foldl f b) = cell b) := by
  induction n with
  | zero => exact ⟨hb, fun i hi => absurd hi (Nat.not_lt_zero i), fun _ => rfl⟩
  | succ n ih =>
    obtain ⟨hinv, hlast, hnone⟩ := ih
    rw [List.range_succ, List.foldl_append, List.foldl_cons, List.foldl_nil]
    refine ⟨keep _ n hinv, fun i hi hP hlater => ?_, fun h => ?_⟩
    · rcases Nat.lt_succ_iff_lt_or_eq.mp hi with hlt | rfl
      · rw [miss _ n hinv (hlater n hlt (Nat.lt_succ_self n))]
        exact hlast i hlt hP fun j hj hjn => hlater j hj (Nat.lt_succ_of_lt hjn)
      · exact hit _ i hinv hP
    · rw [miss _ n hinv (h n (Nat.lt_succ_self n))]
      exact hnone fun i hi => h i (Nat.lt_succ_of_lt hi)

/-! ## One tile in the picture -/

/-- In a picture of width `w` a place has one row and one column. -/
theorem pixelIndex_inj {w x y x' y' : Nat} (hx : x < w) (hx' : x' < w) : y' * w + x' = y * w + x ↔ x' = x ∧ y' = y := by
  refine ⟨fun h => ?_, fun ⟨h1, h2⟩ => by rw [h1, h2]⟩
  have hmod : (y' * w + x') % w = (y * w + x) % w := congrArg (· % w) h
  have hdiv : (y' * w + x') / w = (y * w + x) / w := congrArg (· / w) h
  rw [Nat.mul_add_mod', Nat.mul_add_mod', Nat.mod_eq_of_lt hx, Nat.mod_eq_of_lt hx'] at hmod
  have hw : 0 < w := by omega
  rw [Nat.mul_comm, Nat.mul_add_div hw, Nat.mul_comm y, Nat.mul_add_div hw, Nat.div_eq_of_lt hx,
    Nat.div_eq_of_lt hx'] at hdiv
  exact ⟨hmod, hdiv⟩

theorem pixelIndex_lt {w h x y : Nat} (hx : x < w) (hy : y < h) : y * w + x < w * h := by
  have : (y + 1) * w ≤ h * w := Nat.mul_le_mul_right w hy
  rw [Nat.add_mul, Nat.one_mul] at this
  rw [Nat.mul_comm w h]
  omega

/-- The texel of a tile that shows at a pixel: the tile's place in the block grid is the pixel's, and so is the texel's
in the tile. -/
theorem texelPlace_iff {side X Y x y t : Nat} (hs : 0 < side) (ht : t < side * side) :
    (X * side + t % side = x ∧ Y * side + t / side = y) ↔
      (X = x / side ∧ Y = y / side) ∧ t = y % side * side + x % side := by
  have hcol : t % side < side := Nat.mod_lt t hs
  have hrow : t / side < side := Nat.div_lt_of_lt_mul ht
  constructor
  · rintro ⟨rfl, rfl⟩
    simp only [Nat.mul_comm _ side, Nat.mul_add_div hs, Nat.div_eq_of_lt hcol, Nat.div_eq_of_lt hrow,
      Nat.mod_eq_of_lt hrow, Nat.mul_add_mod, Nat.mod_mod, Nat.add_zero, and_self, true_and]
    exact (Nat.div_add_mod t side).symm
  · rintro ⟨⟨rfl, rfl⟩, rfl⟩
    have hx : x % side < side := Nat.mod_lt x hs
    rw [Nat.mul_add_mod', Nat.mod_mod, Nat.mul_comm (y % side), Nat.mul_add_div hs, Nat.div_eq_of_lt hx, Nat.add_zero]
    exact ⟨Nat.div_add_mod' x side, Nat.div_add_mod' y side⟩

@[simp] theorem putTile_length (side w h ox oy : Nat) (tile px : List Pixel) :
    (putTile side w h ox oy tile px).length = px.length := by
  unfold putTile
  induction List.range (side * side) generalizing px with
  | nil => rfl
  | cons t ts ih =>
    rw [List.foldl_cons, ih]
    dsimp only
    split
    · exact List.length_set
    · rfl

@[simp] theorem placeBlock_length (side w h bx by_ : Nat) (dest : Option Nat) (tile px : List Pixel) :
    (placeBlock side w h bx by_ dest tile px).length = px.length := by
  unfold placeBlock
  split
  · rfl
  · split
    · exact putTile_length ..
    · rfl

section
variable {side w h x y : Nat} (hs : 0 < side) (hx : x < w) (hy : y < h)
include hs hx hy

/-- A tile covers the pixels of its place in the block grid and no others. -/
theorem putTile_getElem? (X Y : Nat) (tile : List Pixel) {px : List Pixel} (hlen : px.length = w * h) :
    (putTile side w h (X * side) (Y * side) tile px)[y * w + x]? =
      if X = x / side ∧ Y = y / side then some (tile.getD (y % side * side + x % side) fillPixel)
      else px[y * w + x]? := by
  have fold := foldl_range_lastWriter (cell := fun px : List Pixel => px[y * w + x]?)
    (P := fun t => X * side + t % side = x ∧ Y * side + t / side = y) (g := fun t => some (tile.getD t fillPixel))
    (I := fun px : List Pixel => px.length = w * h)
    (f := fun px t =>
      let x := X * side + t % side
      let y := Y * side + t / side
      if x < w ∧ y < h then px.set (y * w + x) (tile.getD t fillPixel) else px)
    ?keep ?hit ?miss hlen (side * side)
  case keep =>
    intro px t h
    dsimp only
    split
    · rw [List.length_set, h]
    · exact h
  case hit =>
    rintro px t h ⟨rfl, rfl⟩
    dsimp only
    rw [if_pos ⟨hx, hy⟩, List.getElem?_set_self (h ▸ pixelIndex_lt hx hy)]
  case miss =>
    intro px t h hne
    dsimp only
    split
    · rename_i hin
      exact List.getElem?_set_ne fun e => hne ((pixelIndex_inj hx hin.1).mp e)
    · rfl
  obtain ⟨-, hlast, hnone⟩ := fold
  have htexel : y % side * side + x % side < side * side := pixelIndex_lt (Nat.mod_lt x hs) (Nat.mod_lt y hs)
  split
  · rename_i hplace
    refine hlast _ htexel ((texelPlace_iff hs htexel).mpr ⟨hplace, rfl⟩) fun t hlt ht hP => ?_
    exact Nat.ne_of_gt hlt ((texelPlace_iff hs ht).mp hP).2
  · rename_i hplace
    exact hnone fun t ht hP => hplace ((texelPlace_iff hs ht).mp hP).1

theorem placeBlock_getElem? {bx by_ : Nat} (hxb : x / side < bx) (hyb : y / side < by_) (dest : Option Nat)
    (tile : List Pixel) {px : List Pixel} (hlen : px.length = w * h) :
    (placeBlock side w h bx by_ dest tile px)[y * w + x]? =
      if dest = some (y / side * bx + x / side) then some (tile.getD (y % side * side + x % side) fillPixel)
      else px[y * w + x]? := by
  have hplace : y / side * bx + x / side < bx * by_ := pixelIndex_lt hxb hyb
  cases dest with
  | none => rfl
  | some d =>
    have hbx : 0 < bx := Nat.zero_lt_of_lt hxb
    have place : d % bx = x / side ∧ d / bx = y / side ↔ d = y / side * bx + x / side := by
      rw [← pixelIndex_inj hxb (Nat.mod_lt d hbx), Nat.div_add_mod']
    simp only [placeBlock, Option.some.injEq]
    split
    · rw [putTile_getElem? hs hx hy _ _ tile hlen, if_congr place rfl rfl]
    · rename_i hout
      rw [if_neg]
      rintro rfl
      exact hout hplace

/-- The stream decoded into a picture: a pixel shows the last block that the map sends to its place. -/
theorem decodeBlocks_getElem? (c : Config) (codec : Nat → List Pixel) (bytes : Nat) {bx by_ : Nat} (ro : Reorder)
    (m : Memory) (hxb : x / side < bx) (hyb : y / side < by_) :
    let lands := fun n => reordMap c ro n bx by_ (8 * bytes) = some (y / side * bx + x / side)
    let px := decodeBlocks c codec side bytes w h bx by_ ro m
    (∀ n, n < bx * by_ → lands n → (∀ m, n < m → m < bx * by_ → ¬ lands m) →
      px[y * w + x]? = some ((codec (blockAt m n bytes)).getD (y % side * side + x % side) fillPixel)) ∧
    ((∀ n, n < bx * by_ → ¬ lands n) → px[y * w + x]? = some fillPixel) := by
  intro lands px
  have blank : (List.replicate (w * h) fillPixel)[y * w + x]? = some fillPixel :=
    List.getElem?_replicate_of_lt (pixelIndex_lt hx hy)
  have fold := foldl_range_lastWriter (cell := fun px : List Pixel => px[y * w + x]?) (P := lands)
    (g := fun n => some ((codec (blockAt m n bytes)).getD (y % side * side + x % side) fillPixel))
    (I := fun px : List Pixel => px.length = w * h)
    (f := fun px n => placeBlock side w h bx by_ (reordMap c ro n bx by_ (8 * bytes)) (codec (blockAt m n bytes)) px)
    (fun px n h => (placeBlock_length ..).trans h)
    (fun px n h hn => (placeBlock_getElem? hs hx hy hxb hyb _ _ h).trans (if_pos hn))
    (fun px n h hn => (placeBlock_getElem? hs hx hy hxb hyb _ _ h).trans (if_neg hn))
    (List.length_replicate (n := w * h) (a := fillPixel)) (bx * by_)
  exact ⟨fold.2.1, fun h => (fold.2.2 h).trans blank⟩

end

theorem decodeBlocks_length (c : Config) (codec : Nat → List Pixel) (side bytes w h bx by_ : Nat) (ro : Reorder)
    (m : Memory) : (decodeBlocks c codec side bytes w h bx by_ ro m).length = w * h := by
  unfold decodeBlocks
  induction bx * by_ with
  | zero => exact List.length_replicate
  | succ n ih => rw [List.range_succ, List.foldl_append, List.foldl_cons, List.foldl_nil, placeBlock_length, ih]

/-! ## The block grid -/

theorem tileW_pos (k : Special) : 0 < tileW k := by cases k <;> decide

/-- The tiles of the block codecs are squares (20_memory.md rule R52). -/
theorem tileH_eq_tileW {k : Special} (hk : isPvrt k = false) : tileH k = tileW k := by
  cases k with
  | pvrt2 | pvrt4 => cases hk
  | _ => rfl

/-- Every coordinate of a picture lies in one of its blocks. -/
theorem div_lt_ceilDiv {n side p : Nat} (hs : 0 < side) (hp : p < n) : p / side < ceilDiv n side := by
  rw [ceilDiv, Nat.div_lt_iff_lt_mul hs]
  have := Nat.lt_div_mul_add hs (a := n + side - 1)
  omega

/-- Settles O34: the fold over the blocks, whose last writer to a place wins. -/
theorem blkScattersTiles : Obligations.BlkScattersTiles := by
  intro k ro s t x y hk hl hn ht hx hy
  rw [exec_blkOf_legal hk hl hn] at ht
  cases ht
  have hs : 0 < tileW k := tileW_pos k
  have hxb : x / tileW k < blocksX k s.w := by
    rw [blocksX, hk]
    exact div_lt_ceilDiv hs hx
  have hyb : y / tileW k < blocksY k s.h := by
    rw [blocksY, hk, tileH_eq_tileW hk]
    exact div_lt_ceilDiv hs hy
  exact decodeBlocks_getElem? hs hx hy s.cfg (tileOf s.cfg k) (blockBytes k) ro s.inBuf hxb hyb

theorem lastTile_of_pos (codec : Nat → List Pixel) (bytes : Nat) {n : Nat} (h : 0 < n) (m : Memory) (old : List Pixel) :
    lastTile codec bytes n m old = codec (blockAt m (n - 1) bytes) := by
  obtain ⟨n, rfl⟩ := Nat.exists_eq_succ_of_ne_zero h.ne'
  rfl

/-- Settles O33. -/
theorem blkCompletes : Obligations.BlkCompletes := by
  intro k ro s hk hl hn
  refine ⟨_, exec_blkOf_legal hk hl hn, rfl, decodeBlocks_length .., rfl, ?tile, rfl, rfl, State.decoded_midJob ..⟩
  case tile => exact fun h => lastTile_of_pos _ _ h _ _

end Sys2Proof.Machine
end

section
/-! SUPPORT. Single steps and stages: which instruction a step runs, and the reorderings that only pass on. -/

namespace Sys2Proof.Machine

theorem fetchWord_of_decode {sl : Slot} {d : DescWord} {i : Instr} (h : decode sl d = .ok i) :
    fetchWord sl d = .stageOp i := by
  simp only [fetchWord, h]

theorem stageStep_of_fetch {s : State} {i : Instr} (h : fetchStage s = .stageOp i) : stageStep s = exec i s := by
  simp only [stageStep, h]

theorem stageStep_validate {s : State} (hg : s.stage = .validate) : stageStep s = execValidate s :=
  stageStep_of_fetch (i := .validate) (by simp only [fetchStage, hg])

theorem runStages_busy {s : State} (hb : s.status = .busy) (n : Nat) :
    runStages (n + 1) s = andThen (stageStep s) (runStages n) := if_pos hb

/-- Settles O4. -/
theorem stepRunsDecodedInstruction : Obligations.StepRunsDecodedInstruction := by
  intro s i
  have stage : s.status = .busy → fetchStage s = .stageOp i → step s = exec i s :=
    fun hb hf => (step_busy hb).trans (stageStep_of_fetch hf)
  refine ⟨fun hb hg => ?_, fun hb hg hd => ?_, fun hb hg hd => ?_, fun hb hg hd => ?_, fun hb hg hx hd => ?_,
    fun c hb hc hd => step_of_decode hb hc hd, fun n hb => ?_, fun n hb => runStages_outside hb n, step_no_command⟩
  · exact (step_busy hb).trans (stageStep_validate hg)
  · exact stage hb (by simp only [fetchStage, hg, fetchWord_of_decode hd])
  · exact stage hb (by simp only [fetchStage, hg, fetchWord_of_decode hd])
  · exact stage hb (by simp only [fetchStage, hg, fetchWord_of_decode hd])
  · exact stage hb (by simp [fetchStage, hg, hx, fetchWord_of_decode hd])
  · rw [runStages_busy hb, step_busy hb]

theorem reordStage_special {s : State} (h : descSpecial s.inFmt ≠ 0) (ro : Reorder) :
    reordStage ro s = .next (s.toStage .filter) := if_pos h

/-- Settles O50. -/
theorem reordLinearCompletes : Obligations.ReordLinearCompletes := by
  intro ro s h
  by_cases hl : ro = .linear
  · subst hl; rfl
  · rw [exec_reordOf hl, reordStage_special (h.resolve_left hl)]
    rfl

end Sys2Proof.Machine
end

section
/-! SUPPORT. The run of a job: from `VALIDATE` on every stage answers, each in `BUSY` until the job has ended
(40_pipeline.md rules R110, R112). -/

namespace Sys2Proof.Machine

/-! ## What a job that VALIDATE has passed holds -/

theorem legalCodes_of_codesLegal {d : DescWord} (h : codesLegal d) : ∃ ro fi, LegalCodes d ro fi := by
  obtain ⟨hres, hsp, hro, hfi⟩ := h
  obtain ⟨ro, hro⟩ := reorderOf_isSome hro
  obtain ⟨fi, hfi⟩ := filterOf_isSome hfi
  exact ⟨ro, fi, hres, hsp, hro, hfi⟩

theorem wordLegal.codes {d : DescWord} (h : wordLegal d) : codesLegal d := by
  obtain ⟨hres, hsp, hro, hfi, -⟩ := h
  exact ⟨hres, hsp, hro, hfi⟩

/-- A legal word without a special kind names a layout. -/
theorem wordLegal.layout {d : DescWord} (h : wordLegal d) (h0 : descSpecial d = 0) :
    ∃ ch, chOf (descCh d) = some ch := by
  obtain ⟨-, ch, hch, -⟩ := (wordLegal_iff_of_layout h0).mp h
  exact ⟨ch, hch⟩

/-- The words of a job without an error are legal, and its output is packed from a plain layout
(41_descriptor_validator.md rules R138, R150). -/
theorem words_of_firstError {s : State} (h : firstError s = none) :
    wordLegal s.inFmt ∧ wordLegal s.outFmt ∧ descSpecial s.outFmt = 0 ∧ descCh s.outFmt ≠ 14 := by
  simp only [firstError, Option.or_eq_none_iff, checkWord, checkSupported, Option.map_eq_none_iff,
    wordSub_eq_none_iff] at h
  obtain ⟨⟨⟨⟨⟨⟨⟨-, hin⟩, hout⟩, -⟩, -⟩, -⟩, hsup⟩, -⟩ := h
  simp only [supportedSub, ite_some_eq_none_iff] at hsup
  obtain ⟨hsp, -, hch, -⟩ := hsup
  exact ⟨hin, hout, not_not.mp hsp, hch⟩

/-- Every legal input word is an operation of the decode stage. -/
theorem wordLegal.decode_inOp {d : DescWord} (h : wordLegal d) : ∃ i, decode .inOp d = .ok i := by
  obtain ⟨ro, fi, legal⟩ := legalCodes_of_codesLegal h.codes
  rw [legal.decode_inOp]
  cases hsp : specialOf (descSpecial d) with
  | some k => exact ⟨_, decodeInOp_special hsp ro⟩
  | none =>
    have h0 : descSpecial d = 0 := specialOf_eq_none legal.special hsp
    obtain ⟨ch, hch⟩ := h.layout h0
    cases ch with
    | plain lay => exact ⟨_, decodeInOp_plain h0 hch ro⟩
    | indexed => exact ⟨_, decodeInOp_indexed h0 hch ro⟩

theorem wordLegal.decode_inReorder {d : DescWord} (h : wordLegal d) : ∃ i, decode .inReorder d = .ok i := by
  obtain ⟨ro, fi, legal⟩ := legalCodes_of_codesLegal h.codes
  exact ⟨_, legal.decode_inReorder⟩

theorem wordLegal.decode_outFilter {d : DescWord} (h : wordLegal d) : ∃ i, decode .outFilter d = .ok i := by
  obtain ⟨ro, fi, legal⟩ := legalCodes_of_codesLegal h.codes
  exact ⟨_, legal.decode_outFilter⟩

/-- Every legal output word of a plain layout is an operation of the pack stage. -/
theorem wordLegal.decode_outPack {d : DescWord} (h : wordLegal d) (h0 : descSpecial d = 0) (h14 : descCh d ≠ 14) :
    ∃ i, decode .outPack d = .ok i := by
  obtain ⟨ro, fi, legal⟩ := legalCodes_of_codesLegal h.codes
  rw [legal.decode_outPack]
  obtain ⟨ch, hch⟩ := h.layout h0
  cases ch with
  | plain lay => exact ⟨_, decodeOutPack_plain h0 hch⟩
  | indexed => exact absurd (chOf_indexed hch) h14

/-! ## Every stage answers -/

theorem Moves.answers {s : State} {r : Result} (h : Moves s r) : ∃ t, r = .next t := by
  cases h <;> exact ⟨_, rfl⟩

/-- The running stage of a job that `VALIDATE` has yet to see or has passed. -/
def State.onTrack (s : State) : Prop :=
  s.status = .busy ∧ 0 < s.stage.left ∧ (s.stage = .validate ∨ firstError s = none)

theorem stageStep_answers {s : State} (h : s.onTrack) : ∃ t, stageStep s = .next t := by
  obtain ⟨-, hleft, hpassed⟩ := h
  have word : ∀ {sl d}, (∃ i, decode sl d = .ok i) → fetchStage s = fetchWord sl d → ∃ t, stageStep s = .next t :=
    fun ⟨i, hi⟩ hf => stageStep_of_fetch (hf.trans (fetchWord_of_decode hi)) ▸ (exec_moves i s).answers
  have passed : s.stage ≠ .validate → _ := fun hg => words_of_firstError (hpassed.resolve_left hg)
  cases hg : s.stage <;> simp only [hg] at hleft passed
  case validate =>
    exact stageStep_validate hg ▸ (execValidate_moves s).answers
  case decode =>
    obtain ⟨hin, -⟩ := passed (by simp)
    exact word hin.decode_inOp (by simp only [fetchStage, hg])
  case reorder =>
    obtain ⟨hin, -⟩ := passed (by simp)
    exact word hin.decode_inReorder (by simp only [fetchStage, hg])
  case filter =>
    obtain ⟨-, hout, -⟩ := passed (by simp)
    exact word hout.decode_outFilter (by simp only [fetchStage, hg])
  case pack =>
    obtain ⟨-, hout, hsp, hch⟩ := passed (by simp)
    by_cases hx : s.isIndexed = true
    · have run : stageStep s = packIndexed s := by simp [stageStep, fetchStage, hg, hx]
      exact run ▸ (packIndexed_moves s).answers
    · exact word (hout.decode_outPack hsp hch) (by simp [fetchStage, hg, hx])
  all_goals cases hleft

/-- What `VALIDATE` reports depends on what the engine only reads. -/
theorem firstError_of_sameInputs {s t : State} (h : s.sameInputs t) : firstError t = firstError s := by
  cases s
  cases t
  simp only [State.sameInputs] at h
  obtain ⟨rfl, rfl, rfl, rfl, rfl, rfl, rfl, rfl, rfl, rfl, rfl, rfl, rfl, rfl, rfl⟩ := h
  rfl

/-- A stage ends its job, or hands over to a stage that runs nearer to the end of a job without an error. -/
theorem stageStep_onTrack {s t : State} (hs : s.onTrack) (h : stageStep s = .next t) :
    t.ended ∨ (t.onTrack ∧ t.stage.left < s.stage.left) := by
  obtain ⟨hb, -, hpassed⟩ := hs
  have same : firstError t = firstError s := firstError_of_sameInputs (h ▸ stageStep_moves h).sameInputs
  rcases stageStep_nearer hb h with he | ⟨hbt, h0, hlt⟩
  · exact .inl he
  · refine .inr ⟨⟨hbt, h0, .inr (same.trans ?_)⟩, hlt⟩
    rcases hpassed with hg | hp
    · rw [stageStep_validate hg] at h
      rcases execValidate_cases s with ⟨-, hr⟩ | ⟨hp, -⟩ | ⟨hp, -⟩
      · exact absurd hbt (State.ended_not_busy (h ▸ hr).ended)
      · exact hp
      · exact hp
    · exact hp

/-! ## The run of a job -/

/-- From `s`, inside a job, `n` stages lead to `t`, with the job running before each, and no more stages run. -/
def State.runsTo (s t : State) (n : Nat) : Prop :=
  (∀ m, m < n → ∃ u, runStages m s = .next u ∧ u.status = .busy) ∧ ∀ k, n ≤ k → runStages k s = .next t

theorem runsTo_one {s t : State} (hb : s.status = .busy) (h : stageStep s = .next t) (ht : t.ended) : s.runsTo t 1 := by
  refine ⟨fun m hm => ?_, fun k hk => ?_⟩
  · obtain rfl : m = 0 := by omega
    exact ⟨s, rfl, hb⟩
  · obtain ⟨k, rfl⟩ : ∃ j, k = j + 1 := ⟨k - 1, by omega⟩
    rw [runStages_busy hb, h]
    exact runStages_outside (State.ended_not_busy ht) k

theorem State.runsTo.cons {s t u : State} {n : Nat} (hu : u.runsTo t n) (hb : s.status = .busy)
    (h : stageStep s = .next u) : s.runsTo t (n + 1) := by
  have rest : ∀ k, runStages (k + 1) s = runStages k u := fun k => by rw [runStages_busy hb, h]; rfl
  obtain ⟨hbefore, hafter⟩ := hu
  refine ⟨fun m hm => ?_, fun k hk => ?_⟩
  · cases m with
    | zero => exact ⟨s, rfl, hb⟩
    | succ m => exact rest m ▸ hbefore m (by omega)
  · obtain ⟨k, rfl⟩ : ∃ j, k = j + 1 := ⟨k - 1, by omega⟩
    exact (rest k).trans (hafter k (by omega))

/-- A job runs to its end in as many stages as it has left at most (40_pipeline.md rule R112). -/
theorem State.onTrack.runs {s : State} (hs : s.onTrack) :
    ∃ t n, 1 ≤ n ∧ n ≤ s.stage.left ∧ s.runsTo t n ∧ t.ended := by
  induction hl : s.stage.left using Nat.strong_induction_on generalizing s with
  | _ l ih =>
    obtain ⟨u, hu⟩ := stageStep_answers hs
    rcases stageStep_onTrack hs hu with he | ⟨htrack, hlt⟩
    · have := hs.2.1
      exact ⟨u, 1, Nat.le_refl 1, by omega, runsTo_one hs.1 hu he, he⟩
    · obtain ⟨t, n, -, hn, hrun, ht⟩ := ih _ (hl ▸ hlt) htrack rfl
      exact ⟨t, n + 1, by omega, by omega, hrun.cons hs.1 hu, ht⟩

/-! ## The codes at the end of a job -/

/-- Where a job ends, its status and its error code agree (40_pipeline.md rule R110). -/
def State.codesAgree (t : State) : Prop :=
  (t.status = .done → t.errCode = .none ∧ t.errInfo = 0) ∧ (t.status = .error → t.errCode ≠ .none)

theorem Moves.codesAgree {s t : State} (hb : s.status = .busy) (h : Moves s (.next t)) : t.codesAgree := by
  cases h with
  | begins hi => simp [hb] at hi
  | cleared he => simp [hb] at he
  | raises e v he => exact ⟨nofun, fun _ => he⟩
  | emptyJob | packs => exact ⟨fun _ => ⟨rfl, rfl⟩, nofun⟩
  | same | stage | decoded | decodedIdx | canon | idx => simp [State.codesAgree, hb]

/-- Settles O11: `START` enters `VALIDATE`, from which the job runs to its end. -/
theorem everyJobEnds : Obligations.EveryJobEnds := by
  intro s hi hc
  have hstart : exec .start s.takeCmd = .next s.takeCmd.beginJob := (exec_start _).trans (execStart_idle hi)
  obtain ⟨t, n, h1, h5, ⟨hbefore, hafter⟩, he⟩ :=
    State.onTrack.runs (s := s.takeCmd.beginJob) ⟨rfl, Nat.succ_pos 4, .inl rfl⟩
  have hstep : step s = .next t := (step_start hi hc).trans (hafter 5 h5)
  refine ⟨_, t, n, hstart, rfl, rfl, h1, h5, hbefore, hafter n (Nat.le_refl n), hstep, ?_⟩
  have agree : t.codesAgree :=
    runStages_induct (P := State.codesAgree) (fun u v hb _ huv => (huv ▸ stageStep_moves huv).codesAgree hb) n _ t
      (by simp [State.codesAgree]) (hafter n (Nat.le_refl n))
  rcases he with hd | he
  · exact .inl ⟨hd, agree.1 hd⟩
  · exact .inr ⟨he, agree.2 he, outputsChangeOnlyAtDone s t hstep (by simp [he])⟩

end Sys2Proof.Machine
end

section
/-! SUPPORT. Two jobs with equal inputs, stage by stage: each stage makes the same move in both, whatever else the two
states hold, so that they end alike (40_pipeline.md rule R123). -/

namespace Sys2Proof.Machine

/-! ## What a stage reads of the input -/

theorem readBytes_congr {m k : Memory} {a n : Nat} (h : ∀ j, j < n → k.read (a + j) = m.read (a + j)) :
    k.readBytes a n = m.readBytes a n :=
  List.map_congr_left fun j hj => h j (List.mem_range.mp hj)

/-- Samples have four bits or whole bytes; a reserved class has none. -/
theorem Bpp.bits_cases (b : Bpp) : b.bits = 4 ∨ ∃ n, b.bits = 8 * n := by
  cases hl : b.legal with
  | true => exact Bpp.bits_of_legal hl
  | false =>
    refine .inr ⟨0, ?_⟩
    cases b with
    | rsv0 | rsv7 => rfl
    | _ => cases hl

/-- The samples `0 .. n-1` lie in the first `ceil(n*bpp/8)` bytes (20_memory.md rule R51). -/
theorem readSamples_congr (c : Config) {m k : Memory} {n : Nat} {b : Bpp} (e : Endian)
    (h : ∀ a, a < sampleBytes n b.bits → k.read a = m.read a) :
    readSamples c k n b.bits e = readSamples c m n b.bits e := by
  refine List.map_congr_left fun i hi => ?_
  rw [List.mem_range] at hi
  rcases Bpp.bits_cases b with h4 | ⟨w, h8⟩
  · have hread : k.read (i / 2) = m.read (i / 2) := h _ (by rw [h4, sampleBytes]; omega)
    simp only [h4, readSample, if_true, hread]
  · rw [h8, readSample_wide, readSample_wide, readBytes_congr fun j hj => h _ ?_]
    have : (i + 1) * w ≤ n * w := Nat.mul_le_mul_right w hi
    rw [Nat.add_mul, Nat.one_mul] at this
    rw [h8, sampleBytes, Nat.mul_left_comm]
    omega

/-- The blocks `0 .. n-1` are the first `n * bytes` bytes (20_memory.md rule R52). -/
theorem blockAt_congr {m k : Memory} {n i bytes : Nat} (h : ∀ a, a < n * bytes → k.read a = m.read a) (hi : i < n) :
    blockAt k i bytes = blockAt m i bytes := by
  rw [blockAt, blockAt, readBytes_congr fun j hj => h _ ?_]
  have : (i + 1) * bytes ≤ n * bytes := Nat.mul_le_mul_right bytes hi
  rw [Nat.add_mul, Nat.one_mul] at this
  omega

theorem decodeBlocks_congr (c : Config) (codec : Nat → List Pixel) (side w h : Nat) {bytes bx by_ : Nat} (ro : Reorder)
    {m k : Memory} (hread : ∀ a, a < bx * by_ * bytes → k.read a = m.read a) :
    decodeBlocks c codec side bytes w h bx by_ ro k = decodeBlocks c codec side bytes w h bx by_ ro m :=
  List.foldl_ext _ _ _ fun _ _ hi => by rw [blockAt_congr hread (List.mem_range.mp hi)]

theorem lastTile_congr (codec : Nat → List Pixel) {bytes n : Nat} {m k : Memory} (old : List Pixel)
    (hread : ∀ a, a < n * bytes → k.read a = m.read a) :
    lastTile codec bytes n k old = lastTile codec bytes n m old := by
  cases n with
  | zero => rfl
  | succ n => exact congrArg codec (blockAt_congr hread (Nat.lt_succ_self n))

theorem readGrid_congr {m k : Memory} {nx ny : Nat} (hread : ∀ a, a < nx * ny * 8 → k.read a = m.read a) :
    readGrid k nx ny = readGrid m nx ny :=
  congrArg (WordGrid.mk nx ny) (List.map_congr_left fun _ hi => blockAt_congr hread (List.mem_range.mp hi))

/-! ## What a job needs -/

theorem State.needed_of_special {s : State} {k : Special} (h : s.special = some k) :
    s.needed = specialBytes k s.w s.h := by
  simp only [State.needed, h]

theorem State.needed_of_samples {s : State} (h : s.special = none) : s.needed = sampleBytes s.area s.inBpp.bits := by
  simp only [State.needed, h]

/-- The operation of `S_DECODE` with the operands it takes from `IN_FMT` (40_pipeline.md rule R115). -/
theorem decode_inOp_operands {s : State} {i : Instr} (h : decode .inOp s.inFmt = .ok i) :
    (∃ lay, s.special = none ∧ i = chdecOf lay (plainOf s.inFmt)) ∨ (s.special = none ∧ i = .idx s.inBpp) ∨
      ∃ k ro, s.special = some k ∧ i = blkOf k ro := by
  obtain ⟨ro, fi, legal⟩ := legalCodes_of_decode (.inl rfl) h
  rw [legal.decode_inOp, decodeInOp] at h
  split at h
  · rename_i k hk
    cases h; exact .inr (.inr ⟨k, ro, hk, rfl⟩)
  · rename_i hk
    split at h <;> cases h
    · exact .inl ⟨_, hk, rfl⟩
    · exact .inr (.inl ⟨hk, rfl⟩)

/-! ## Twins -/

/-- `s` with the bytes of `IN`, the outputs and the history of `x`: what may differ between two jobs that end alike. -/
def State.reframed (s x : State) : State :=
  { s with
    inBuf := x.inBuf, outLen := x.outLen, tblLen := x.tblLen, out := x.out, tbl := x.tbl, written := x.written,
    jobs := x.jobs }

/-- `u` is `s` but for the outputs, the history and the bytes of `IN` that the job does not need. -/
def State.twin (s u : State) : Prop :=
  ∃ x, u = s.reframed x ∧ ∀ a, a < s.needed → x.inBuf.read a = s.inBuf.read a

theorem State.twin.cfg_eq {s u : State} (h : s.twin u) : u.cfg = s.cfg := by
  obtain ⟨x, rfl, -⟩ := h
  rfl

/-- The same move of an instruction from two states, an error taken among them. -/
inductive SameMove (s u : State) : Result → Result → Prop where
  | raises (e : Err) : SameMove s u (raising e s) (raising e u)
  | emptyJob : SameMove s u (.next s.finishEmpty) (.next u.finishEmpty)
  | stage (g : Stage) : SameMove s u (.next (s.toStage g)) (.next (u.toStage g))
  | decoded (px : List Pixel) (n : Nat) (tl : List Pixel) :
    SameMove s u (.next (s.decoded px n tl)) (.next (u.decoded px n tl))
  | decodedIdx (ix : List Byte) (tb : List (List Pixel)) (n : Nat) :
    SameMove s u (.next (s.decodedIdx ix tb n)) (.next (u.decodedIdx ix tb n))
  | canon (px : List Pixel) (g : Stage) : SameMove s u (.next (s.withCanon px g)) (.next (u.withCanon px g))
  | idx (ix : List Byte) (g : Stage) : SameMove s u (.next (s.withIdx ix g)) (.next (u.withIdx ix g))
  | packs (bs : List Byte) (tb : List (List Byte)) :
    SameMove s u (.next ((s.writeOut bs).writeTbl tb).finish) (.next ((u.writeOut bs).writeTbl tb).finish)

/-! ## The stages of twins -/

section
variable (s x : State)

@[simp] theorem State.reframed_cfg : (s.reframed x).cfg = s.cfg := rfl
@[simp] theorem State.reframed_w : (s.reframed x).w = s.w := rfl
@[simp] theorem State.reframed_h : (s.reframed x).h = s.h := rfl
@[simp] theorem State.reframed_area : (s.reframed x).area = s.area := rfl
@[simp] theorem State.reframed_inFmt : (s.reframed x).inFmt = s.inFmt := rfl
@[simp] theorem State.reframed_inEnd : (s.reframed x).inEnd = s.inEnd := rfl
@[simp] theorem State.reframed_outFmt : (s.reframed x).outFmt = s.outFmt := rfl
@[simp] theorem State.reframed_outEnd : (s.reframed x).outEnd = s.outEnd := rfl
@[simp] theorem State.reframed_inBuf : (s.reframed x).inBuf = x.inBuf := rfl
@[simp] theorem State.reframed_canon : (s.reframed x).canon = s.canon := rfl
@[simp] theorem State.reframed_idxBuf : (s.reframed x).idxBuf = s.idxBuf := rfl
@[simp] theorem State.reframed_tables : (s.reframed x).tables = s.tables := rfl
@[simp] theorem State.reframed_tile : (s.reframed x).tile = s.tile := rfl
@[simp] theorem State.reframed_inBpp : (s.reframed x).inBpp = s.inBpp := rfl
@[simp] theorem State.reframed_isIndexed : (s.reframed x).isIndexed = s.isIndexed := rfl
@[simp] theorem State.reframed_palLayout : (s.reframed x).palLayout = s.palLayout := rfl
@[simp] theorem State.reframed_palTables (lay : Layout) (e : Endian) (n : Nat) :
    (s.reframed x).palTables lay e n = s.palTables lay e n := rfl
@[simp] theorem State.reframed_paletteErr (n : Nat) (ix : List Byte) :
    (s.reframed x).paletteErr n ix = s.paletteErr n ix := rfl
@[simp] theorem checkBytes_reframed (n : Nat) : checkBytes (s.reframed x) n = checkBytes s n := rfl
@[simp] theorem checkPalette_reframed : checkPalette (s.reframed x) = checkPalette s := rfl
@[simp] theorem firstError_reframed : firstError (s.reframed x) = firstError s := rfl
@[simp] theorem fetchStage_reframed : fetchStage (s.reframed x) = fetchStage s := rfl

theorem execValidate_same : SameMove s (s.reframed x) (execValidate s) (execValidate (s.reframed x)) := by
  simp only [execValidate, firstError_reframed, State.reframed_area]
  split
  · exact .raises _
  · by_cases h0 : s.area = 0
    · simp only [h0, if_true]
      exact .emptyJob
    · simp only [h0, if_false]
      exact .stage _

theorem reordStage_same (ro : Reorder) :
    SameMove s (s.reframed x) (reordStage ro s) (reordStage ro (s.reframed x)) := by
  simp only [reordStage, State.reframed_inFmt, State.reframed_cfg, State.reframed_w, State.reframed_h,
    State.reframed_inBpp, State.reframed_isIndexed, State.reframed_idxBuf, State.reframed_canon]
  by_cases h0 : descSpecial s.inFmt = 0
  · simp only [ne_eq, h0, not_true_eq_false, if_false]
    split
    · exact .raises _
    · by_cases hx : s.isIndexed = true
      · simp only [hx, if_true]
        exact .idx _ _
      · simp only [hx]
        exact .canon _ _
  · simp only [ne_eq, h0, not_false_eq_true, if_true]
    exact .stage _

theorem reordOf_same (ro : Reorder) :
    SameMove s (s.reframed x) (exec (reordOf ro) s) (exec (reordOf ro) (s.reframed x)) := by
  by_cases hl : ro = .linear
  · subst hl; exact .stage .filter
  · rw [exec_reordOf hl, exec_reordOf hl]
    exact reordStage_same s x ro

theorem filtOf_same (fi : Filter) :
    SameMove s (s.reframed x) (exec (filtOf fi) s) (exec (filtOf fi) (s.reframed x)) := by
  cases fi with
  | none => exact .stage .pack
  | dither =>
    change SameMove s (s.reframed x) (execFiltDither s) (execFiltDither (s.reframed x))
    unfold execFiltDither
    rw [State.reframed_isIndexed]
    split
    · exact .stage .pack
    · exact .canon (ditherList s.cfg s.outFmt s.w s.canon) .pack

theorem chencOf_same (lay : Layout) (f : PlainFmt) :
    SameMove s (s.reframed x) (exec (chencOf lay f) s) (exec (chencOf lay f) (s.reframed x)) := by
  simp only [exec_chencOf, chencStage, State.reframed_outEnd]
  split
  · exact .raises _
  · exact .raises _
  · exact .packs _ []

theorem packIndexed_same : SameMove s (s.reframed x) (packIndexed s) (packIndexed (s.reframed x)) := by
  simp only [packIndexed, State.reframed_outEnd]
  split
  · exact .raises _
  · exact .packs _ _

end

section
variable {s x : State} (hread : ∀ a, a < s.needed → x.inBuf.read a = s.inBuf.read a)
include hread

theorem chdecOf_same {lay : Layout} {f : PlainFmt} (hn : s.needed = sampleBytes s.area f.bpp.bits) :
    SameMove s (s.reframed x) (exec (chdecOf lay f) s) (exec (chdecOf lay f) (s.reframed x)) := by
  have samples : ∀ e, readSamples s.cfg x.inBuf s.area f.bpp.bits e = readSamples s.cfg s.inBuf s.area f.bpp.bits e :=
    fun e => readSamples_congr s.cfg e (hn ▸ hread)
  simp only [exec_chdecOf, chdecStage, chdec, State.reframed_inEnd, State.reframed_area, State.reframed_cfg,
    State.reframed_inBuf, State.reframed_tile, checkBytes_reframed, samples]
  split
  · exact .raises _
  · exact .raises _
  · split
    · exact .raises _
    · exact .decoded _ _ _

theorem idx_same {b : Bpp} (hn : s.needed = sampleBytes s.area b.bits) :
    SameMove s (s.reframed x) (exec (.idx b) s) (exec (.idx b) (s.reframed x)) := by
  have samples : ∀ e, readSamples s.cfg x.inBuf s.area b.bits e = readSamples s.cfg s.inBuf s.area b.bits e :=
    fun e => readSamples_congr s.cfg e (hn ▸ hread)
  change SameMove s (s.reframed x) (execIdx b s) (execIdx b (s.reframed x))
  simp only [execIdx, idxSamples, State.reframed_inEnd, State.reframed_area, State.reframed_cfg, State.reframed_inBuf,
    State.reframed_palLayout, State.reframed_paletteErr, State.reframed_palTables, checkPalette_reframed,
    checkBytes_reframed, samples]
  split
  · exact .raises _
  · exact .raises _
  · exact .raises _
  · exact .raises _
  · split
    · exact .raises _
    · split
      · exact .raises _
      · exact .decodedIdx _ _ _

theorem blockStage_same {k : Special} (hn : s.needed = specialBytes k s.w s.h) (codec : Nat → List Pixel)
    (ro : Reorder) : SameMove s (s.reframed x) (blockStage k codec ro s) (blockStage k codec ro (s.reframed x)) := by
  rw [hn, specialBytes] at hread
  simp only [blockStage, State.reframed_cfg, State.reframed_w, State.reframed_h, State.reframed_inBuf,
    State.reframed_tile, checkBytes_reframed, decodeBlocks_congr _ _ _ _ _ _ hread, lastTile_congr _ _ hread]
  split
  · exact .raises _
  · exact .raises _
  · exact .decoded _ _ _

theorem pvrtStage_same {k : Special} (hn : s.needed = specialBytes k s.w s.h) (hk : blockBytes k = 8)
    (pixel : WordGrid → Nat → Nat → Pixel) (ro : Reorder) :
    SameMove s (s.reframed x) (pvrtStage k pixel ro s) (pvrtStage k pixel ro (s.reframed x)) := by
  rw [hn, specialBytes, hk] at hread
  simp only [pvrtStage, State.reframed_cfg, State.reframed_w, State.reframed_h, State.reframed_inBuf,
    checkBytes_reframed, readGrid_congr hread]
  split
  · exact .raises _
  · exact .raises _
  · exact .canon _ _

theorem blkOf_same {k : Special} (hn : s.needed = specialBytes k s.w s.h) (ro : Reorder) :
    SameMove s (s.reframed x) (exec (blkOf k ro) s) (exec (blkOf k ro) (s.reframed x)) := by
  cases hk : isPvrt k with
  | false =>
    rw [exec_blkOf_tile hk, exec_blkOf_tile hk]
    exact blockStage_same hread hn (tileOf s.cfg k) ro
  | true =>
    cases k with
    | pvrt2 => exact pvrtStage_same hread hn rfl (pvrt2Pixel s.cfg) ro
    | pvrt4 => exact pvrtStage_same hread hn rfl (pvrt4Pixel s.cfg) ro
    | _ => cases hk

/-- The operation of `S_DECODE` reads the bytes the job needs and no others (20_memory.md rules R51, R52). -/
theorem decode_same {i : Instr} (hd : decode .inOp s.inFmt = .ok i) :
    SameMove s (s.reframed x) (exec i s) (exec i (s.reframed x)) := by
  rcases decode_inOp_operands hd with ⟨lay, hsp, rfl⟩ | ⟨hsp, rfl⟩ | ⟨k, ro, hsp, rfl⟩
  · exact chdecOf_same hread (State.needed_of_samples hsp)
  · exact idx_same hread (State.needed_of_samples hsp)
  · exact blkOf_same hread (State.needed_of_special hsp) ro

end

/-- The operation of each stage makes the same move in twins. -/
theorem exec_same {s x : State} {i : Instr} (hread : ∀ a, a < s.needed → x.inBuf.read a = s.inBuf.read a)
    (hf : fetchStage s = .stageOp i) : SameMove s (s.reframed x) (exec i s) (exec i (s.reframed x)) := by
  unfold fetchStage at hf
  cases hg : s.stage <;> simp only [hg] at hf
  case validate => cases hf; exact execValidate_same s x
  case decode => exact decode_same hread (fetchWord_stageOp hf)
  case reorder =>
    obtain ⟨ro, rfl⟩ := decode_inReorder (fetchWord_stageOp hf)
    exact reordOf_same s x ro
  case filter =>
    obtain ⟨fi, rfl⟩ := decode_outFilter (fetchWord_stageOp hf)
    exact filtOf_same s x fi
  case pack =>
    split at hf
    · cases hf
    · obtain ⟨lay, f, rfl⟩ := decode_outPack (fetchWord_stageOp hf)
      exact chencOf_same s x lay f
  all_goals cases hf

/-- Each stage that goes on makes the same move in twins. -/
theorem stageStep_same {s u t v : State} (h : s.twin u) (ht : stageStep s = .next t) (hv : stageStep u = .next v) :
    SameMove s u (.next t) (.next v) := by
  obtain ⟨x, rfl, hread⟩ := h
  rcases stageStep_cases s with ⟨i, hf, -⟩ | ⟨hf, e⟩ | ⟨_, -, e⟩ | e
  · rw [← ht, ← hv, stageStep_of_fetch hf, stageStep_of_fetch (s := s.reframed x) hf]
    exact exec_same hread hf
  · have e' : stageStep (s.reframed x) = packIndexed (s.reframed x) := by simp only [stageStep, fetchStage_reframed, hf]
    rw [← ht, ← hv, e, e']
    exact packIndexed_same s x
  · rw [e] at ht; cases ht
  · rw [e] at ht; cases ht

/-! ## The end of both jobs -/

/-- The ends of two jobs that the host cannot tell apart: equal status registers and, in `DONE`, equal lengths and bytes
of the outputs below them. -/
def State.sameEnd (t v : State) : Prop :=
  v.status = t.status ∧ v.errCode = t.errCode ∧ v.errInfo = t.errInfo ∧
    (t.status = .done →
      v.outLen = t.outLen ∧ (∀ a, a < t.outLen.toNat → v.out.read a = t.out.read a) ∧ v.tblLen = t.tblLen ∧
      ∀ k a, a < (t.tblLen.getD k 0).toNat → (v.tbl.getD k []).read a = (t.tbl.getD k []).read a)

theorem tableLens_getD (n : Nat) (bs : List (List Byte)) (k : Nat) :
    (tableLens n bs).getD k 0 = if k < n then BitVec.ofNat 32 (bs.getD k []).length else 0 := by
  induction n generalizing bs k with
  | zero => rfl
  | succ n ih =>
    cases bs with
    | nil => simp [List.getD_eq_getElem?_getD, List.getElem?_replicate]; split <;> rfl
    | cons b bs =>
      cases k with
      | zero => simp [tableLens]
      | succ k => simpa [tableLens] using ih bs k

theorem writeTables_getD (ms : List Memory) (bs : List (List Byte)) (k : Nat) :
    (writeTables ms bs).getD k [] = if k < ms.length then (ms.getD k []).writeBytes 0 (bs.getD k []) else [] := by
  induction ms generalizing bs k with
  | nil => rfl
  | cons m ms ih =>
    cases bs with
    | nil =>
      rw [writeTables_nil, List.getD_nil, Memory.writeBytes]
      split
      · rfl
      · rename_i hk
        exact List.getD_eq_default _ _ (Nat.not_lt.mp hk)
    | cons b bs =>
      cases k with
      | zero => simp [writeTables]
      | succ k => simpa [writeTables] using ih bs k

/-- A number of bytes kept in 32 bits is no larger. -/
theorem toNat_ofNat_le (n : Nat) : (BitVec.ofNat 32 n).toNat ≤ n := by
  rw [BitVec.toNat_ofNat]
  exact Nat.mod_le _ _

theorem raise_sameEnd (s u : State) (e : Err) : (s.raise e.1 e.2).sameEnd (u.raise e.1 e.2) :=
  ⟨rfl, rfl, rfl, nofun⟩

theorem finishEmpty_sameEnd {s u : State} (h : u.tblLen.length = s.tblLen.length) :
    s.finishEmpty.sameEnd u.finishEmpty := by
  refine ⟨rfl, rfl, rfl, fun _ => ⟨rfl, fun a ha => absurd ha (Nat.not_lt_zero a), ?_, fun k a ha => ?_⟩⟩
  · simp [h]
  · have zero : (s.finishEmpty.tblLen.getD k 0).toNat = 0 := by
      simp only [State.finishEmpty_tblLen, List.getD_eq_getElem?_getD, List.getElem?_replicate]
      split <;> rfl
    rw [zero] at ha
    exact absurd ha (Nat.not_lt_zero a)

/-- Two machines with the same parameters have as many tables (10_state.md rule R21). -/
theorem tblLen_length_eq {s u : State} (hs : s.buffersWf = true) (hu : u.buffersWf = true) (hcfg : u.cfg = s.cfg) :
    u.tblLen.length = s.tblLen.length := by
  obtain ⟨-, -, -, -, -, hsl, -⟩ := (State.buffersWf_iff s).mp hs
  obtain ⟨-, -, -, -, -, hul, -⟩ := (State.buffersWf_iff u).mp hu
  rw [hul, hsl, hcfg]

/-- The pack stage writes the same bytes at the same places, so that the outputs read alike below their lengths. -/
theorem packs_sameEnd {s u : State} (hs : s.buffersWf = true) (hu : u.buffersWf = true) (hcfg : u.cfg = s.cfg)
    (bs : List Byte) (tb : List (List Byte)) :
    (((s.writeOut bs).writeTbl tb).finish).sameEnd ((u.writeOut bs).writeTbl tb).finish := by
  obtain ⟨-, hso, -, hst, -, hsl, -, hsn⟩ := (State.buffersWf_iff s).mp hs
  obtain ⟨-, huo, -, hut, -, hul, -, hun⟩ := (State.buffersWf_iff u).mp hu
  have len : u.tblLen.length = s.tblLen.length := tblLen_length_eq hs hu hcfg
  refine ⟨rfl, rfl, rfl, fun _ => ⟨rfl, fun a ha => ?out, congrArg (tableLens · tb) len, fun k a ha => ?tbl⟩⟩
  case out =>
    have hlt : a < bs.length := Nat.lt_of_lt_of_le ha (toNat_ofNat_le _)
    exact (State.writeOut_read huo bs a).trans
      ((if_pos hlt).trans ((State.writeOut_read hso bs a).trans (if_pos hlt)).symm)
  case tbl =>
    change a < ((tableLens s.tblLen.length tb).getD k 0).toNat at ha
    change ((writeTables u.tbl tb).getD k []).read a = ((writeTables s.tbl tb).getD k []).read a
    rw [tableLens_getD] at ha
    split at ha
    · rename_i hk
      have hlt : 0 ≤ a ∧ a < 0 + (tb.getD k []).length :=
        ⟨Nat.zero_le a, by simpa using Nat.lt_of_lt_of_le ha (toNat_ofNat_le _)⟩
      rw [writeTables_getD, writeTables_getD, if_pos (by omega), if_pos (by omega),
        Memory.read_writeBytes (getD_wf hut k), Memory.read_writeBytes (getD_wf hst k), if_pos hlt, if_pos hlt]
    · exact absurd ha (Nat.not_lt_zero a)

/-- The same move in twins ends both jobs alike, or keeps them twins inside their jobs. -/
theorem SameMove.sameEnd_or_twin {s u t v : State} (hs : s.buffersWf = true) (hu : u.buffersWf = true)
    (hb : s.status = .busy) (htw : s.twin u) (h : SameMove s u (.next t) (.next v)) :
    (t.ended ∧ t.sameEnd v) ∨ (t.status = .busy ∧ t.twin v) := by
  have len : u.tblLen.length = s.tblLen.length := tblLen_length_eq hs hu htw.cfg_eq
  obtain ⟨x, rfl, hread⟩ := htw
  cases h with
  | raises e => exact .inl ⟨.inr rfl, raise_sameEnd ..⟩
  | emptyJob => exact .inl ⟨.inl rfl, finishEmpty_sameEnd len⟩
  | packs bs tb => exact .inl ⟨.inl rfl, packs_sameEnd hs hu rfl bs tb⟩
  | stage | decoded | decodedIdx | canon | idx => exact .inr ⟨hb, x, rfl, hread⟩

/-! ## Whole jobs -/

/-- Two runs of stages from twins: both jobs are still running, or they have ended alike. -/
theorem runStages_sameEnd {n : Nat} {s u t v : State} (hs : s.Inv) (hu : u.Inv) (hb : s.status = .busy) (htw : s.twin u)
    (ht : runStages n s = .next t) (hv : runStages n u = .next v) : t.status = .busy ∨ t.sameEnd v := by
  induction n generalizing s u with
  | zero => cases ht; exact .inl hb
  | succ n ih =>
    have hbu : u.status = .busy := by obtain ⟨x, rfl, -⟩ := htw; exact hb
    rw [runStages_busy hb] at ht
    rw [runStages_busy hbu] at hv
    obtain ⟨s', hs', ht⟩ := andThen_next ht
    obtain ⟨u', hu', hv⟩ := andThen_next hv
    rcases (stageStep_same htw hs' hu').sameEnd_or_twin hs.1 hu.1 hb htw with ⟨he, hsame⟩ | ⟨hb', htw'⟩
    · have hbs : s'.status ≠ .busy := State.ended_not_busy he
      have hbu' : u'.status ≠ .busy := hsame.1 ▸ hbs
      rw [runStages_outside hbs] at ht
      rw [runStages_outside hbu'] at hv
      cases ht; cases hv
      exact .inr hsame
    · have inv : s'.Inv := Moves.inv hs hb (hs' ▸ stageStep_moves hs')
      have inv' : u'.Inv := Moves.inv hu hbu (hu' ▸ stageStep_moves hu')
      exact ih inv inv' hb' htw' ht hv

/-- Equal job inputs make the two jobs twins from their first stage on. -/
theorem beginJob_twin {s u : State} (hcode : u.errCode = s.errCode) (hinfo : u.errInfo = s.errInfo)
    (h : s.sameJobInputs u) : s.takeCmd.beginJob.twin u.takeCmd.beginJob := by
  refine ⟨u.takeCmd.beginJob, ?_, ?_⟩
  · cases s
    cases u
    simp only [State.sameJobInputs] at h hcode hinfo
    obtain ⟨rfl, rfl, rfl, rfl, rfl, rfl, rfl, rfl, rfl, rfl, rfl, rfl, rfl, -⟩ := h
    subst hcode hinfo
    rfl
  · obtain ⟨-, -, -, -, -, -, -, -, -, -, -, -, -, hread⟩ := h
    exact hread

/-- Settles O13: the two jobs are twins, and run stage by stage to ends that are the same. -/
theorem jobIsAFunction : Obligations.JobIsAFunction := by
  intro s u t v hs hu his hiu hcs hcu hin ht hv
  obtain ⟨-, -, -, herrs⟩ := (State.inv_outside_iff (by simp [his])).mp hs
  obtain ⟨-, -, -, herru⟩ := (State.inv_outside_iff (by simp [hiu])).mp hu
  obtain ⟨hec, hei⟩ := (State.errorWf_of_not_error (by simp [his])).mp herrs
  obtain ⟨hec', hei'⟩ := (State.errorWf_of_not_error (by simp [hiu])).mp herru
  have begins : ∀ {w : State}, w.Inv → w.status = .idle → w.takeCmd.beginJob.Inv := fun hw hi =>
    State.beginJob_inv (State.takeCmd_inv hw (by simp [hi])) hi rfl
  rw [step_start his hcs] at ht
  rw [step_start hiu hcu] at hv
  have ended : t.ended := runStages_ended (State.beginJob_status _) (Nat.succ_pos 4) (Nat.le_refl 5) ht
  exact (runStages_sameEnd (begins hs his) (begins hu hiu) rfl
    (beginJob_twin (hec'.trans hec.symm) (hei'.trans hei.symm) hin) ht hv).resolve_left (State.ended_not_busy ended)

end Sys2Proof.Machine
end

section
/-! SUPPORT. `VALIDATE` against the list of its checks: each check of the model reports what the first failing row of
its part of the list reports (41_descriptor_validator.md rules R135 to R153, 60_exceptions.md rules R412, R415). -/

namespace Sys2Proof.Machine

/-! ## The first failing check of a list -/

/-- The error that a failing check reports (60_exceptions.md rule R412). -/
def Check.report (k : Check) : Err := (k.error, BitVec.ofNat 32 k.info)

/-- What the first failing check of a list reports. -/
def firstReport (l : List Check) : Option Err := (l.find? Check.fails).map Check.report

@[simp] theorem firstReport_nil : firstReport [] = none := rfl

@[simp] theorem firstReport_cons (k : Check) (l : List Check) :
    firstReport (k :: l) = if k.fails then some k.report else firstReport l := by
  cases h : k.fails <;> simp [firstReport, h]

theorem firstReport_decide_cons (p : Prop) [Decidable p] (e : ErrCode) (n : Nat) (l : List Check) :
    firstReport (⟨decide p, e, n⟩ :: l) = if p then some (e, BitVec.ofNat 32 n) else firstReport l := by
  simp only [firstReport_cons, decide_eq_true_eq, Check.report]

@[simp] theorem firstReport_append (l m : List Check) : firstReport (l ++ m) = (firstReport l).or (firstReport m) := by
  simp [firstReport, List.find?_append, Option.map_or]

/-- Checks that are made only under a condition. -/
theorem firstReport_guarded (p : Bool) (l : List Check) :
    firstReport (l.map fun k => { k with fails := p && k.fails }) = if p then firstReport l else none := by
  induction l with
  | nil => simp
  | cons k l ih => cases p <;> simp_all [Check.report]

/-- A chain of checks gives the error of the sub-cause it finds. -/
theorem map_ite_some {α β : Type} (f : α → β) (p : Prop) [Decidable p] (a : α) (r : Option α) :
    (if p then some a else r).map f = if p then some (f a) else r.map f := by
  split <;> rfl

/-! ## Codes that the checks refuse -/

theorem descBpp_lt (d : DescWord) : descBpp d < 8 := Nat.mod_lt _ (by decide)

theorem descBpp_reserved_iff {d : DescWord} : (bppOf (descBpp d)).legal = false ↔ descBpp d = 0 ∨ descBpp d = 7 := by
  have := descBpp_lt d
  rw [← Bool.not_eq_true, bppOf_legal_iff]
  omega

theorem descBpp_wide_iff {d : DescWord} (h : ¬ (descBpp d = 0 ∨ descBpp d = 7)) :
    (bppOf (descBpp d)).indexable = false ↔ 2 < descBpp d := by
  rw [← Bool.not_eq_true, bppOf_indexable_iff]
  omega

theorem widthsLegal_plainOf {d : DescWord} : (plainOf d).widthsLegal = false ↔
    16 < descRbits d ∨ 16 < descGbits d ∨ 16 < descBbits d ∨ 16 < descAbits d := by
  rw [← Bool.not_eq_true, PlainFmt.widthsLegal_iff]
  simp only [plainOf]
  omega

theorem chOf_eq_none_iff {n : Nat} : chOf n = none ↔ n = 0 ∨ 14 < n := by
  rw [← Option.not_isSome_iff_eq_none, chOf_isSome_iff]
  omega

theorem namedWide_iff_zeroWidth {d : DescWord} {lay : Layout} (h : chOf (descCh d) = some (.plain lay)) :
    (plainOf d).namedWide lay = false ↔ zeroWidth d = true := by
  simp [PlainFmt.namedWide, zeroWidth, h]

theorem sumFits_iff_sumTooWide {d : DescWord} {lay : Layout} (h : chOf (descCh d) = some (.plain lay)) :
    (plainOf d).sumFits lay = false ↔ sumTooWide d = true := by
  simp only [PlainFmt.sumFits, sumTooWide, h, decide_eq_false_iff_not, decide_eq_true_eq, not_le]
  rfl

/-! ## Descriptor words -/

section
variable {d : DescWord} (hbpp : ¬ (descBpp d = 0 ∨ descBpp d = 7))
include hbpp

theorem checkPlain_plainOf {lay : Layout} (hch : chOf (descCh d) = some (.plain lay)) :
    checkPlain lay (plainOf d) =
      if 16 < descRbits d ∨ 16 < descGbits d ∨ 16 < descBbits d ∨ 16 < descAbits d then some 9
      else if zeroWidth d then some 11
      else if sumTooWide d then some 12
      else none := by
  have legal : (plainOf d).bpp.legal = false ↔ _ := descBpp_reserved_iff
  simp only [checkPlain, legal, widthsLegal_plainOf, namedWide_iff_zeroWidth hch, sumFits_iff_sumTooWide hch, hbpp,
    if_false]

theorem checkIndexed_plainOf :
    checkIndexed (plainOf d) =
      if 16 < descRbits d ∨ 16 < descGbits d ∨ 16 < descBbits d ∨ 16 < descAbits d then some 9
      else if 2 < descBpp d then some 10
      else none := by
  have legal : (plainOf d).bpp.legal = false ↔ _ := descBpp_reserved_iff
  have wide : (plainOf d).bpp.indexable = false ↔ _ := descBpp_wide_iff hbpp
  simp only [checkIndexed, legal, widthsLegal_plainOf, wide, hbpp, if_false]

end

/-- The checks of a word without a special kind, one by one (41_descriptor_validator.md rules R142 to R146). -/
def layoutSub (d : DescWord) : Option Nat :=
  if descBpp d = 0 ∨ descBpp d = 7 then some 7
  else if descCh d = 0 ∨ 14 < descCh d then some 8
  else if 16 < descRbits d ∨ 16 < descGbits d ∨ 16 < descBbits d ∨ 16 < descAbits d then some 9
  else if descCh d = 14 ∧ 2 < descBpp d then some 10
  else if zeroWidth d then some 11
  else if sumTooWide d then some 12
  else none

/-- The order in which `check_word` looks at a layout's fields is the order of its sub-causes. -/
theorem wordSub_eq (d : DescWord) : wordSub d =
    if descReserved d ≠ 0 then some 2
    else if 18 < descSpecial d then some 3
    else if 4 < descReorder d then some 4
    else if 1 < descFilter d then some 5
    else if descSpecial d ≠ 0 then none
    else layoutSub d := by
  unfold wordSub
  congr 5
  simp only [layoutSub, descBpp_reserved_iff]
  split
  case isTrue => rfl
  case isFalse hbpp =>
    cases hch : chOf (descCh d) with
    | none => simp [chOf_eq_none_iff.mp hch]
    | some ch =>
      have named := chOf_eq_none_iff.not.mp (hch ▸ Option.some_ne_none ch)
      cases ch with
      | plain lay =>
        have notIndexed : descCh d ≠ 14 := fun e => by simp [e, chOf] at hch
        simp [checkPlain_plainOf hbpp hch, named, notIndexed]
      | indexed =>
        have index := chOf_indexed hch
        simp [checkIndexed_plainOf hbpp, index, zeroWidth, sumTooWide, chOf]

theorem firstReport_wordChecks (d : DescWord) (n : Nat) : firstReport (wordChecks d n) = checkWord d n := by
  simp only [wordChecks, firstReport_cons, firstReport_nil, Check.report, checkWord, wordSub_eq, layoutSub,
    map_ite_some, validationErr, validationInfo, decide_eq_true_eq]
  by_cases h0 : descSpecial d = 0 <;> simp [h0, map_ite_some]

/-! ## The registers -/

theorem checkEndian_eq (e : Code2) (n : Nat) :
    checkEndian e n = if 2 ≤ e.toNat then some (validationErr 6 n) else none := by
  have : (endianOf e).isNone = true ↔ 2 ≤ e.toNat := by revert e; decide
  simp only [checkEndian, this]

theorem paletteShape_eq_false_iff {s : State} : paletteShape s = false ↔
    s.palCount = 0 ∨ s.cfg.palMax < s.palCount.toNat ∨ descSpecial s.palFmt ≠ 0 ∨ descCh s.palFmt = 14 ∨
      descBpp s.palFmt = 1 := by
  have count : s.palCount = 0 ↔ s.palCount.toNat = 0 := BitVec.toNat_eq
  rw [← Bool.not_eq_true, count]
  simp only [paletteShape, Bool.and_eq_true, bne_iff_ne, beq_iff_eq, decide_eq_true_eq, ne_eq, bppOf_eq_b4_iff]
  omega

/-- A check gives way to the one after it where it finds nothing. -/
theorem ite_some_or {α : Type} (p : Prop) [Decidable p] (a : α) (r : Option α) :
    (if p then some a else none).or r = if p then some a else r := by
  split <;> rfl

theorem checkGeometry_eq (s : State) : checkGeometry s =
    if ¬ (0 ≤ s.width.toInt ∧ s.width.toInt < 16384 ∧ 0 ≤ s.height.toInt ∧ s.height.toInt < 16384) then
      some (validationErr 1 0)
    else none :=
  (ite_not ..).symm

theorem checkPalette_eq (s : State) : checkPalette s = (checkWord s.palFmt 3).or
    (if 2 ≤ s.palEnd.toNat then some (validationErr 6 3)
     else if paletteShape s = false then some (validationErr 13 3) else none) := by
  rw [checkPalette, Option.or_assoc, checkEndian_eq, ite_some_or]
  cases paletteShape s <;> rfl

theorem firstReport_paletteChecks (s : State) : firstReport s.paletteChecks = checkPalette s := by
  simp only [checkPalette_eq, State.paletteChecks, firstReport_append, firstReport_wordChecks,
    firstReport_decide_cons, paletteShape_eq_false_iff]
  rfl

theorem checkLength_eq (s : State) :
    checkLength s =
      if s.area ≠ 0 ∧ s.inLen.toNat < s.needed then some (.truncated, truncatedInfo s.needed) else none := by
  by_cases h : s.area = 0 <;> simp [checkLength, checkBytes, h]

/-! ## Powers of two -/

theorem isPow2_iff {n : Nat} : isPow2 n = true ↔ ∃ a, n = 2 ^ a := by
  simp only [isPow2, Bool.and_eq_true, bne_iff_ne, beq_iff_eq]
  constructor
  · exact fun ⟨_, h⟩ => ⟨_, h.symm⟩
  · rintro ⟨a, rfl⟩
    exact ⟨(Nat.two_pow_pos a).ne', by rw [Nat.log2_two_pow]⟩

/-- A side of a legal picture is a unit times a power of two (47_pvrtc.md rule R334). -/
theorem powerOf2Times_iff {u n : Nat} (hu : 0 < u) (hn : n < 16384) :
    powerOf2Times u n = true ↔ n % u = 0 ∧ isPow2 (n / u) = true := by
  simp only [powerOf2Times, List.any_eq_true, List.mem_range, beq_iff_eq, isPow2_iff]
  constructor
  · rintro ⟨a, -, rfl⟩
    exact ⟨Nat.mul_mod_right .., a, Nat.mul_div_cancel_left _ hu⟩
  · rintro ⟨h0, a, ha⟩
    have hmul : n = u * 2 ^ a := by rw [← ha, Nat.mul_div_cancel' (Nat.dvd_of_mod_eq_zero h0)]
    have hlt : 2 ^ a < 2 ^ 14 := (Nat.le_mul_of_pos_left _ hu).trans_lt (hmul ▸ hn)
    exact ⟨a, (Nat.pow_lt_pow_iff_right (by decide)).mp hlt, hmul⟩

theorem isPvrt_iff {k : Special} : isPvrt k = true ↔ k = .pvrt2 ∨ k = .pvrt4 := by simp [isPvrt]

theorem pvrtGeometry_eq_false_iff {k : Special} {w h : Nat} (hk : isPvrt k = true) (hw : w < 16384) (hh : h < 16384) :
    pvrtGeometry k w h = false ↔
      powerOf2Times (if k = .pvrt2 then 8 else 4) w = false ∨ powerOf2Times 4 h = false := by
  have unit : tileW k = (if k = .pvrt2 then 8 else 4) ∧ tileH k = 4 := by
    rcases isPvrt_iff.mp hk with rfl | rfl <;> decide
  have pos : 0 < tileW k := by cases k <;> decide
  rw [← unit.1, ← unit.2]
  simp only [← Bool.not_eq_true, powerOf2Times_iff pos hw, powerOf2Times_iff (u := tileH k) (by cases k <;> decide) hh,
    pvrtGeometry, Bool.and_eq_true, beq_iff_eq]
  tauto

theorem toNat_lt_of_toInt_lt {v : Word32} {n : Nat} (h0 : 0 ≤ v.toInt) (hlt : v.toInt < n) : v.toNat < n := by
  rw [BitVec.toInt_eq_toNat_cond] at h0 hlt
  have := v.isLt
  split at h0 <;> omega

theorem State.geometryLegal.sides_lt {s : State} (h : s.geometryLegal) : s.w < 16384 ∧ s.h < 16384 := by
  obtain ⟨hw, hwl, hh, hhl⟩ := h
  exact ⟨toNat_lt_of_toInt_lt hw hwl, toNat_lt_of_toInt_lt hh hhl⟩

/-! ## Grids -/

theorem pspGeometry_eq_false_iff {w h eb : Nat} :
    pspGeometry w h eb = false ↔ 128 % eb ≠ 0 ∨ w % (128 / eb) ≠ 0 ∨ h % 8 ≠ 0 := by
  have zero : eb = 0 → 128 % eb ≠ 0 := by rintro rfl; decide
  rw [← Bool.not_eq_true]
  simp only [pspGeometry, Bool.and_eq_true, bne_iff_ne, beq_iff_eq]
  tauto

theorem switchGeometry_eq_false_iff {c : Config} {w h eb : Nat} : switchGeometry c w h eb = false ↔
    eb ∉ [8, 16, 32, 64, 128] ∨ w * (eb / 8) % 64 ≠ 0 ∨ h % (8 * switchBlockHeight c h) ≠ 0 := by
  rw [← Bool.not_eq_true]
  simp only [switchGeometry, Bool.and_eq_true, Bool.or_eq_true, beq_iff_eq, List.mem_cons, List.not_mem_nil, or_false]
  tauto

theorem blocks_eq_zero_iff {k : Special} {w h : Nat} (hk : isPvrt k = false) :
    blocksX k w * blocksY k h = 0 ↔ w * h = 0 := by
  have side : ∀ n u, 0 < u → (ceilDiv n u = 0 ↔ n = 0) := fun n u hu => by
    rw [ceilDiv, Nat.div_eq_zero_iff]; omega
  simp [blocksX, blocksY, hk, side _ (tileW k) (by cases k <;> decide), side _ (tileH k) (by cases k <;> decide)]

/-- The reordering check of a special kind that decodes block by block. -/
theorem specialSub_block {c : Config} {k : Special} {ro : Reorder} {w h : Nat} (hk : isPvrt k = false) :
    specialSub c k ro w h =
      if ro = .psp ∧ c.implReorderPsp = false then some 4
      else if ro = .switch ∧ c.implReorderSwitch = false then some 5
      else if ro = .tile3ds then some 6
      else if ro = .psp ∧ w * h ≠ 0 ∧ pspGeometry (blocksX k w) (blocksY k h) (8 * blockBytes k) = false then some 10
      else if ro = .switch ∧ w * h ≠ 0 ∧ switchGeometry c (blocksX k w) (blocksY k h) (8 * blockBytes k) = false
        then some 11
      else none := by
  have sizes : 8 * blockBytes k ≠ 4 ∧ 8 * blockBytes k ≠ 24 := by cases k <;> decide
  simp only [specialSub, hk]
  by_cases h0 : w * h = 0
  · simp [h0]
  · cases ro <;> simp [reordSub, sizes, blocks_eq_zero_iff hk, h0]
    all_goals split_ifs <;> rfl

/-- The reordering check of PVRTC. -/
theorem specialSub_pvrt {c : Config} {k : Special} {ro : Reorder} {w h : Nat} (hk : isPvrt k = true) :
    specialSub c k ro w h =
      if ro = .psp ∧ c.implReorderPsp = false then some 4
      else if ro = .switch ∧ c.implReorderSwitch = false then some 5
      else if ro = .tile3ds then some 6
      else if ro ≠ .linear then some 7
      else if w * h ≠ 0 ∧ pvrtGeometry k w h = false then some 12
      else none := by
  cases ro <;> simp [specialSub, reordSub, hk]

/-! ## What the engine does not do -/

/-- The checks of the input among those for what the engine does not do (sub-causes 4 to 12). -/
def State.inputChecks (s : State) : List Check := s.supportChecks.drop 3

section
variable {s : State} {ro : Reorder} (hro : reorderOf (descReorder s.inFmt) = some ro)
include hro

/-- A plain or indexed input, on the picture itself. -/
theorem firstReport_inputChecks_samples (hs : s.special = none) :
    firstReport s.inputChecks = (inputSub s).map unsupportedErr := by
  have wide : s.inBpp.bits = 24 ↔ s.inBpp = .b24 := by cases s.inBpp <;> decide
  have narrow : s.inBpp.bits = 4 ↔ s.inBpp = .b4 := by cases s.inBpp <;> decide
  simp only [State.inputChecks, State.supportChecks, List.drop_succ_cons, List.drop_zero, inputSub, hs, hro,
    Check.report, State.area, firstReport_cons, firstReport_nil]
  cases ro <;>
    simp [reordSub, apply_ite (Option.map unsupportedErr), unsupportedErr, unsupportedInfo, wide, narrow,
      pspGeometry_eq_false_iff, switchGeometry_eq_false_iff]

/-- A special kind that decodes block by block, on the block grid (48_reorder.md rule R366). -/
theorem firstReport_inputChecks_block {k : Special} (hs : s.special = some k) (hk : isPvrt k = false) :
    firstReport s.inputChecks = (inputSub s).map unsupportedErr := by
  have kinds : k ≠ .pvrt2 ∧ k ≠ .pvrt4 := by simpa [isPvrt] using hk
  simp only [State.inputChecks, State.supportChecks, List.drop_succ_cons, List.drop_zero, inputSub, hs, hro,
    Check.report, State.area, firstReport_cons, firstReport_nil, specialSub_block hk]
  cases ro <;>
    simp [apply_ite (Option.map unsupportedErr), unsupportedErr, unsupportedInfo, kinds, pspGeometry_eq_false_iff,
      switchGeometry_eq_false_iff]

/-- PVRTC, on sides that `check_geometry` lets through. -/
theorem firstReport_inputChecks_pvrt {k : Special} (hs : s.special = some k) (hk : isPvrt k = true)
    (hg : s.geometryLegal) : firstReport s.inputChecks = (inputSub s).map unsupportedErr := by
  obtain ⟨hw, hh⟩ := hg.sides_lt
  have kinds := isPvrt_iff.mp hk
  simp only [State.inputChecks, State.supportChecks, List.drop_succ_cons, List.drop_zero, inputSub, hs, hro,
    Check.report, State.area, firstReport_cons, firstReport_nil, specialSub_pvrt hk]
  cases ro <;>
    simp [apply_ite (Option.map unsupportedErr), unsupportedErr, unsupportedInfo, kinds,
      pvrtGeometry_eq_false_iff hk hw hh]

end

theorem firstReport_supportChecks {s : State} (hg : s.geometryLegal) (hw : wordLegal s.inFmt) :
    firstReport s.supportChecks = checkSupported s := by
  obtain ⟨-, -, hcode, -⟩ := hw.codes
  obtain ⟨ro, hro⟩ := reorderOf_isSome hcode
  have input : firstReport s.inputChecks = (inputSub s).map unsupportedErr := by
    cases hs : s.special with
    | none => exact firstReport_inputChecks_samples hro hs
    | some k =>
      cases hk : isPvrt k with
      | false => exact firstReport_inputChecks_block hro hs hk
      | true => exact firstReport_inputChecks_pvrt hro hs hk hg
  rw [checkSupported, supportedSub, map_ite_some, map_ite_some, map_ite_some, ← input]
  simp only [State.inputChecks, State.supportChecks, List.drop_succ_cons, List.drop_zero, firstReport_decide_cons]
  rfl

/-! ## The whole list -/

theorem checkGeometry_eq_none_iff {s : State} : checkGeometry s = none ↔ s.geometryLegal := by
  simp [checkGeometry, State.geometryLegal]

theorem checkWord_eq_none_iff {d : DescWord} {n : Nat} : checkWord d n = none ↔ wordLegal d := by
  rw [checkWord, Option.map_eq_none_iff, wordSub_eq_none_iff]

/-- The model's checks and the list agree: the rows of what the engine does not do are reached only with legal sides and
a legal input word. -/
theorem firstReport_checks (s : State) : firstReport s.checks = firstError s := by
  have ends : firstReport [⟨decide (2 ≤ s.inEnd.toNat), .validation, 0x106⟩,
      ⟨decide (2 ≤ s.outEnd.toNat), .validation, 0x206⟩] = (checkEndian s.inEnd 1).or (checkEndian s.outEnd 2) := by
    rw [checkEndian_eq, checkEndian_eq, ite_some_or, firstReport_decide_cons, firstReport_decide_cons]
    rfl
  have length : firstReport [⟨decide (s.area ≠ 0 ∧ s.inLen.toNat < s.needed), .truncated, s.needed⟩] =
      checkLength s := by
    rw [checkLength_eq, firstReport_decide_cons]
    rfl
  have sides : firstReport [⟨decide (¬ (0 ≤ s.width.toInt ∧ s.width.toInt < 16384 ∧ 0 ≤ s.height.toInt ∧
      s.height.toInt < 16384)), .validation, 1⟩] = checkGeometry s := by
    rw [checkGeometry_eq, firstReport_decide_cons]
    rfl
  simp only [State.checks, firstReport_append, sides, ends, length, firstReport_wordChecks, firstReport_guarded,
    firstReport_paletteChecks, firstError]
  cases hg : checkGeometry s with
  | some e => simp
  | none =>
    cases hw : checkWord s.inFmt 1 with
    | some e => simp
    | none =>
      have support := firstReport_supportChecks (checkGeometry_eq_none_iff.mp hg) (checkWord_eq_none_iff.mp hw)
      simp [support, Option.or_assoc]

end Sys2Proof.Machine
end

section
/-! SUPPORT. The statements about `VALIDATE`: the jobs it finds no error in are the legal ones, and what it does then
(41_descriptor_validator.md rule R135, 40_pipeline.md rule R114). -/

namespace Sys2Proof.Machine

/-! ## Legal jobs -/

theorem checkEndian_eq_none_iff {e : Code2} {n : Nat} : checkEndian e n = none ↔ e.toNat < 2 := by
  simp [checkEndian_eq]

theorem checkPalette_eq_none_iff {s : State} : checkPalette s = none ↔ s.paletteLegal := by
  have count : s.palCount = 0 ↔ s.palCount.toNat = 0 := BitVec.toNat_eq
  simp only [checkPalette_eq, Option.or_eq_none_iff, ite_some_eq_none_iff, checkWord_eq_none_iff,
    paletteShape_eq_false_iff, State.paletteLegal, count, and_true]
  refine and_congr_right fun _ => ?_
  omega

theorem inputSub_eq_none_iff {s : State} : inputSub s = none ↔ s.inputSupported := by
  cases hro : reorderOf (descReorder s.inFmt) with
  | none => simp [inputSub, State.inputSupported, hro]
  | some ro =>
    cases hs : s.special with
    | none => simp [inputSub, State.inputSupported, hro, hs, reordSub_eq_none_iff]
    | some k => simp [inputSub, State.inputSupported, hro, hs, specialSub_eq_none_iff]

theorem checkSupported_eq_none_iff {s : State} : checkSupported s = none ↔
    descSpecial s.outFmt = 0 ∧ descReorder s.outFmt = 0 ∧ descCh s.outFmt ≠ 14 ∧ s.inputSupported := by
  simp only [checkSupported, Option.map_eq_none_iff, supportedSub, ite_some_eq_none_iff, inputSub_eq_none_iff, not_not]

theorem checkLength_eq_none_iff {s : State} : checkLength s = none ↔ (s.area ≠ 0 → s.needed ≤ s.inLen.toNat) := by
  simp [checkLength_eq]

/-- `VALIDATE` finds no error exactly in the legal jobs (41_descriptor_validator.md rule R135). -/
theorem firstError_eq_none_iff {s : State} : firstError s = none ↔ s.legalJob := by
  have palette : (if s.isIndexed then checkPalette s else none) = none ↔ (s.isIndexed = true → s.paletteLegal) := by
    rw [← checkPalette_eq_none_iff]
    cases s.isIndexed <;> simp
  simp only [firstError, Option.or_eq_none_iff, checkGeometry_eq_none_iff, checkWord_eq_none_iff,
    checkEndian_eq_none_iff, palette, checkSupported_eq_none_iff, checkLength_eq_none_iff, State.legalJob, and_assoc]

/-- The three kinds of errors that `VALIDATE` raises (60_exceptions.md rule R415). -/
theorem firstError_kind {s : State} {e : Err} (h : firstError s = some e) :
    e.1 = .validation ∨ e.1 = .unsupported ∨ e.1 = .truncated := by
  simp only [firstError, Option.or_eq_some_iff] at h
  rcases h with ((((((h | ⟨-, h⟩) | ⟨-, h⟩) | ⟨-, h⟩) | ⟨-, h⟩) | ⟨-, h⟩) | ⟨-, h⟩) | ⟨-, h⟩
  · exact .inl (checkGeometry_code h)
  · exact .inl (checkWord_code h)
  · exact .inl (checkWord_code h)
  · exact .inl (checkEndian_code h)
  · exact .inl (checkEndian_code h)
  · split at h
    · exact .inl (checkPalette_code h)
    · cases h
  · exact .inr (.inl (checkSupported_code h))
  · exact .inr (.inr (checkLength_code h))

/-! ## The operation -/

theorem exec_validate (s : State) : exec .validate s = execValidate s := rfl

theorem exec_validate_of_error {s : State} {e : Err} (h : firstError s = some e) :
    exec .validate s = .next (s.raise e.1 e.2) := by
  rw [exec_validate, execValidate, h]
  rfl

theorem exec_validate_of_area {s : State} (h : firstError s = none) (ha : s.area ≠ 0) :
    exec .validate s = .next { s with stage := .decode } := by
  rw [exec_validate, execValidate, h]
  exact if_neg ha

theorem exec_validate_of_empty {s : State} (h : firstError s = none) (ha : s.area = 0) :
    exec .validate s = .next s.finishEmpty := by
  rw [exec_validate, execValidate, h]
  exact if_pos ha

/-- Settles O20. -/
theorem validatePassesLegalJobs : Obligations.ValidatePassesLegalJobs := by
  intro s
  refine ⟨fun legal => exec_validate_of_area (firstError_eq_none_iff.mpr legal), fun legal ha => ?_, fun illegal => ?_⟩
  · refine ⟨_, exec_validate_of_empty (firstError_eq_none_iff.mpr legal) ha, ?_⟩
    simp [State.jobDiscarded, State.sameInputs]
  · obtain ⟨e, he⟩ := Option.ne_none_iff_exists'.mp (mt firstError_eq_none_iff.mp illegal)
    exact ⟨e.1, e.2, firstError_kind he, exec_validate_of_error he⟩

/-- Settles O21. -/
theorem validateReportsFirstError : Obligations.ValidateReportsFirstError := by
  intro s
  have found : firstError s = (s.checks.find? Check.fails).map Check.report := (firstReport_checks s).symm
  refine ⟨fun k hk => ?_, fun hnone => ?_⟩
  · have reported : firstError s = some k.report := by rw [found, hk]; rfl
    exact exec_validate_of_error reported
  · have passed : firstError s = none := by rw [found, hnone]; rfl
    exact ⟨exec_validate_of_area passed, fun ha => ⟨_, exec_validate_of_empty passed ha, rfl, rfl, rfl⟩⟩

end Sys2Proof.Machine
end

section
/-! SUPPORT. Resampling a channel from one width to another (42_channel_codec.md rules R160, R161). -/

namespace Sys2Proof.Machine

theorem two_pow_pred_pos {n : Nat} (h : 1 ≤ n) : 0 < 2 ^ n - 1 :=
  Nat.sub_pos_of_lt (Nat.one_lt_two_pow (Nat.ne_of_gt h))

/-- The largest value of a width is odd. -/
theorem two_pow_pred_odd {n : Nat} (h : 1 ≤ n) : (2 ^ n - 1) % 2 = 1 := by
  obtain ⟨m, rfl⟩ := Nat.exists_eq_add_of_le' h
  have := Nat.two_pow_pos m
  rw [Nat.pow_succ']
  omega

theorem resample_of_lt {v s : Nat} (h : v < 2 ^ s) (d : Nat) :
    resample v s d = (v * (2 ^ d - 1) + (2 ^ s - 1) / 2) / (2 ^ s - 1) := by
  rw [resample, Nat.mod_eq_of_lt h]

theorem resample_zero {s : Nat} (hs : 1 ≤ s) (d : Nat) : resample 0 s d = 0 := by
  have := two_pow_pred_pos hs
  rw [resample_of_lt (Nat.two_pow_pos s), Nat.div_eq_of_lt (by omega)]

theorem resample_max {s : Nat} (hs : 1 ≤ s) (d : Nat) : resample (2 ^ s - 1) s d = 2 ^ d - 1 := by
  have := two_pow_pred_pos hs
  rw [resample_of_lt (by omega), Nat.mul_add_div this, Nat.div_eq_of_lt (by omega), Nat.add_zero]

theorem resample_self {s v : Nat} (hs : 1 ≤ s) (h : v < 2 ^ s) : resample v s s = v := by
  have := two_pow_pred_pos hs
  rw [resample_of_lt h, Nat.mul_comm, Nat.mul_add_div this, Nat.div_eq_of_lt (by omega), Nat.add_zero]

theorem resample_mono {v w s : Nat} (hvw : v ≤ w) (hw : w < 2 ^ s) (d : Nat) : resample v s d ≤ resample w s d := by
  rw [resample_of_lt hw, resample_of_lt (hvw.trans_lt hw)]
  exact Nat.div_le_div_right (Nat.add_le_add_right (Nat.mul_le_mul_right _ hvw) _)

/-- A channel of `d` bits results. -/
theorem resample_lt {s : Nat} (hs : 1 ≤ s) (v d : Nat) : resample v s d < 2 ^ d := by
  have hv : v % 2 ^ s ≤ 2 ^ s - 1 := Nat.le_sub_one_of_lt (Nat.mod_lt _ (Nat.two_pow_pos s))
  have reduced : resample v s d = resample (v % 2 ^ s) s d := by simp [resample]
  have bound := resample_mono hv (Nat.sub_one_lt (Nat.two_pow_pos s).ne') d
  rw [resample_max hs, ← reduced] at bound
  have := Nat.two_pow_pos d
  omega

/-- Rounding to the nearest on a scale at least as fine, and back, changes nothing: the error of the first rounding is at
most `m / 2`, that of the second less than `n / 2`. -/
theorem round_round {v m n : Nat} (hm : 0 < m) (hmn : m ≤ n) (hn : n % 2 = 1) :
    ((v * n + m / 2) / m * m + n / 2) / n = v := by
  have split := Nat.div_add_mod' (v * n + m / 2) m
  have rem := Nat.mod_lt (v * n + m / 2) hm
  refine Nat.div_eq_of_lt_le (by omega) ?_
  rw [Nat.succ_mul]
  omega

/-- Going to a wider channel and back is the identity. -/
theorem resample_resample {v s d : Nat} (hs : 1 ≤ s) (hsd : s ≤ d) (h : v < 2 ^ s) :
    resample (resample v s d) d s = v := by
  rw [resample_of_lt (resample_lt hs v d), resample_of_lt h]
  have := Nat.pow_le_pow_right (n := 2) (by decide) hsd
  exact round_round (two_pow_pred_pos hs) (by omega) (two_pow_pred_odd (hs.trans hsd))

/-- The value 1 of a channel of more than 8 bits rounds to 0. -/
theorem resample_one_eq_zero {s : Nat} (hs : 9 ≤ s) : resample 1 s 8 = 0 := by
  have : 2 ^ 9 ≤ 2 ^ s := Nat.pow_le_pow_right (by decide) hs
  rw [resample_of_lt (by omega), Nat.div_eq_of_lt (by omega)]

/-- Settles O22; the value lost in a channel of more than 8 bits is 1. -/
theorem resampleProperties : Obligations.ResampleProperties := by
  refine ⟨fun s d hs _ _ _ => ⟨resample_zero hs d, resample_max hs d, fun v hv => resample_self hs hv,
      fun v w hvw hw => resample_mono hvw hw d⟩,
    fun s v hs h8 hv => resample_resample hs h8 hv, fun s hs _ => ⟨1, ?_, ?_⟩, resample_one_eq_zero (by decide)⟩
  · exact Nat.one_lt_two_pow (by omega)
  · rw [resample_one_eq_zero hs, resample_zero (by decide)]
    exact Nat.zero_ne_one

end Sys2Proof.Machine
end
section
/-! SUPPORT. What a layout reads from a raw sample and what it packs into one, channel by channel (42_channel_codec.md
rules R169 to R173, R176 to R179). -/

namespace Sys2Proof.Machine

/-! ## The bit groups of a raw sample -/

/-- A group of a raw sample is as wide as its channel. -/
theorem bitGroups_lt {raw : Nat} {f : PlainFmt} {cs : List Chan} {g : Chan × Nat}
    (h : g ∈ bitGroups raw (cs.map fun c => (c, f.width c))) : g.2 < 2 ^ f.width g.1 := by
  induction cs with
  | nil => cases h
  | cons c cs ih =>
    rcases List.mem_cons.mp h with rfl | h
    · exact bitsOf_lt _ _ _
    · exact ih h

/-- The groups stand under the channels of the list, in its order. -/
theorem bitGroups_keys (raw : Nat) (cw : List (Chan × Nat)) : (bitGroups raw cw).map Prod.fst = cw.map Prod.fst := by
  induction cw with
  | nil => rfl
  | cons c cw ih => simp [bitGroups, ih]

theorem channelWidths_keys (lay : Layout) (f : PlainFmt) : (channelWidths lay f).map Prod.fst = lay.channels := by
  simp [channelWidths, Function.comp_def]

/-- Among groups of different channels the one of a channel is found under its name. -/
theorem find?_group {l : List (Chan × Nat)} (hl : (l.map Prod.fst).Nodup) {g : Chan × Nat} (hg : g ∈ l) :
    (l.find? fun x => x.1 == g.1) = some g := by
  induction l with
  | nil => cases hg
  | cons x l ih =>
    rw [List.map_cons, List.nodup_cons] at hl
    rcases List.mem_cons.mp hg with rfl | hg
    · exact List.find?_cons_of_pos (by simp)
    · have other : x.1 ≠ g.1 := fun h => hl.1 (h ▸ List.mem_map_of_mem hg)
      rw [List.find?_cons_of_neg (by simpa using other)]
      exact ih hl.2 hg

/-- No layout names a channel twice (30_encoding.md rule R79). -/
theorem Layout.channels_nodup (lay : Layout) : lay.channels.Nodup := by cases lay <;> decide

theorem sampleChannel_of_group {lay : Layout} {f : PlainFmt} {raw : Nat} {g : Chan × Nat}
    (hg : g ∈ bitGroups raw (channelWidths lay f)) :
    sampleChannel lay f raw g.1 = some (resample g.2 (f.width g.1) 8) := by
  have names : ((bitGroups raw (channelWidths lay f)).map Prod.fst).Nodup := by
    rw [bitGroups_keys, channelWidths_keys]
    exact Layout.channels_nodup lay
  rw [sampleChannel, find?_group names hg, Option.map_some]

theorem mem_channels_of_group {lay : Layout} {f : PlainFmt} {raw : Nat} {g : Chan × Nat}
    (hg : g ∈ bitGroups raw (channelWidths lay f)) : g.1 ∈ lay.channels := by
  rw [← channelWidths_keys lay f, ← bitGroups_keys raw]
  exact List.mem_map_of_mem hg

theorem sampleChannel_of_not_mem {lay : Layout} {ch : Chan} (h : ch ∉ lay.channels) (f : PlainFmt) (raw : Nat) :
    sampleChannel lay f raw ch = none := by
  rw [sampleChannel, Option.map_eq_none_iff, List.find?_eq_none]
  intro g hg he
  exact h (beq_iff_eq.mp he ▸ mem_channels_of_group hg)

/-! ## Packing the groups again -/

/-- A pixel whose channels pack to the groups of a raw sample packs to the sample without its spare bits. -/
theorem encodeGroups_of_packChannel {c : Config} {f : PlainFmt} {p : Pixel} {raw : Nat} {cs : List Chan}
    (h : ∀ g ∈ bitGroups raw (cs.map fun c => (c, f.width c)), packChannel c f p g.1 (f.width g.1) = g.2) :
    encodeGroups c f p (cs.map fun c => (c, f.width c)) = raw % 2 ^ (cs.map f.width).sum := by
  induction cs with
  | nil => exact (Nat.mod_one raw).symm
  | cons ch cs ih =>
    have widths : ((cs.map fun c => (c, f.width c)).map Prod.snd).sum = (cs.map f.width).sum := by
      simp [Function.comp_def]
    have first := h _ List.mem_cons_self
    have rest := ih fun g hg => h g (List.mem_cons_of_mem _ hg)
    simp only [List.map_cons, encodeGroups, List.sum_cons, first, rest, widths, bitsOf]
    rw [Nat.add_comm (f.width ch), Nat.pow_add, Nat.mod_mul, Nat.mul_comm, Nat.add_comm]

theorem lumaEncode_default {c : Config} (hc : c.tables = none) (r g b : Nat) : lumaEncode c r g b = (r + g + b) / 3 := by
  simp only [lumaEncode, hc, stdLumaEncode]

theorem packChannel_x (c : Config) (f : PlainFmt) (p : Pixel) (n : Nat) :
    packChannel c f p .x n = if f.force = .max then 2 ^ n - 1 else 0 := by
  cases h : f.force <;> simp [packChannel, h]

theorem forceValue_eq (f : PlainFmt) : forceValue f = if f.force = .max then 255 else 0 := by
  cases h : f.force <;> simp [forceValue, h]

/-! ## A channel that comes back -/

/-- A layout names luminance or colours, not both (30_encoding.md rule R79). -/
theorem Layout.no_luminance {lay : Layout} {ch : Chan} (h : ch ∈ lay.channels) (hch : ch = .r ∨ ch = .g ∨ ch = .b) :
    .l ∉ lay.channels := by
  rcases hch with rfl | rfl | rfl <;> revert h <;> cases lay <;> decide

/-- The byte of a channel of at most 8 bits packs to the value it was read from. -/
theorem resample_byte {v n : Nat} (hn : 0 < n) (h8 : n ≤ 8) (hv : v < 2 ^ n) :
    resample (BitVec.ofNat 8 (resample v n 8)).toNat 8 n = v := by
  rw [BitVec.toNat_ofNat, Nat.mod_eq_of_lt (resample_lt hn v 8), resample_resample hn h8 hv]

/-- A named channel of at most 8 bits packs to the bits it was decoded from (42_channel_codec.md rule R184). -/
theorem packChannel_decodeSample {c : Config} (hc : c.tables = none) {lay : Layout} {f : PlainFmt} {raw : Nat}
    {ch : Chan} {v : Nat} (hg : (ch, v) ∈ bitGroups raw (channelWidths lay f)) (hx : ch ≠ .x) (h0 : 0 < f.width ch)
    (h8 : f.width ch ≤ 8) : packChannel c f (decodeSample lay f raw) ch (f.width ch) = v := by
  have back := resample_byte h0 h8 (bitGroups_lt hg)
  have read := sampleChannel_of_group hg
  have plain : ch = .r ∨ ch = .g ∨ ch = .b → sampleChannel lay f raw .l = none := fun hch =>
    sampleChannel_of_not_mem (Layout.no_luminance (mem_channels_of_group hg) hch) f raw
  cases ch with
  | r => simpa [packChannel, decodeSample, pixelOf, plain, read] using back
  | g => simpa [packChannel, decodeSample, pixelOf, plain, read] using back
  | b => simpa [packChannel, decodeSample, pixelOf, plain, read] using back
  | a => simpa [packChannel, decodeSample, pixelOf, read] using back
  | l =>
    have mean : ∀ y : Nat, (y + y + y) / 3 = y := fun y => by omega
    simpa [packChannel, decodeSample, pixelOf, read, lumaEncode_default hc, mean] using back
  | x => exact absurd rfl hx

/-- Settles O28: every group packs to itself, and a sample without spare bits is its groups. -/
theorem sampleRoundTrip : Obligations.SampleRoundTrip := by
  intro c lay f raw hc hf h8 hraw hpad
  obtain ⟨-, -, named, -⟩ := PlainFmt.wf_iff.mp hf
  have packs : ∀ g ∈ bitGroups raw (channelWidths lay f),
      packChannel c f (decodeSample lay f raw) g.1 (f.width g.1) = g.2 := by
    rintro ⟨ch, v⟩ hg
    have mem := mem_channels_of_group hg
    by_cases hx : ch = .x
    · subst hx
      exact (packChannel_x ..).trans (hpad _ hg rfl).symm
    · exact packChannel_decodeSample hc hg hx (named ch mem hx) (h8 ch mem hx)
  exact (encodeGroups_of_packChannel packs).trans (Nat.mod_eq_of_lt hraw)

end Sys2Proof.Machine
end
section
/-! SUPPORT. The indexed path on a palette that does not cover the indices (42_channel_codec.md rule R192). -/

namespace Sys2Proof.Machine

/-! ## The palette registers -/

theorem endianOf_of_lt {e : Code2} (h : e.toNat < 2) : ∃ o, endianOf e = some o := by
  have known : ∀ e : Code2, e.toNat < 2 → (endianOf e).isSome = true := by decide
  exact Option.isSome_iff_exists.mp (known e h)

/-- Legal palette registers name a byte order and a layout (41_descriptor_validator.md rule R148). -/
theorem State.paletteLegal.palLayout {s : State} (h : s.paletteLegal) : ∃ lay e, s.palLayout = some (lay, e) := by
  obtain ⟨hword, hend, -, -, h0, h14, -⟩ := h
  obtain ⟨e, he⟩ := endianOf_of_lt hend
  obtain ⟨ch, hch⟩ := hword.layout h0
  cases ch with
  | plain lay => exact ⟨lay, e, State.palLayout_of_plain hch he⟩
  | indexed => exact absurd (chOf_indexed hch) h14

/-! ## The largest index -/

/-- An index of 4 or 8 bits fits a byte of `IDXBUF`. -/
theorem readSample_lt_of_indexable (c : Config) (m : Memory) (i : Nat) {b : Bpp} (h : b.indexable = true) (e : Endian) :
    readSample c m i b.bits e < 256 := by
  cases b with
  | b4 =>
    have byte : (if nibbleSwapped c e then swapNibbles (m.read (i / 2)).toNat else (m.read (i / 2)).toNat) < 256 := by
      split
      · exact swapNibbles_lt (m.read (i / 2)).isLt
      · exact (m.read (i / 2)).isLt
    simp only [readSample, Bpp.bits, if_true]
    split <;> omega
  | b8 =>
    have byte := (m.read i).isLt
    have read : readSample c m i (8 * 1) e = (m.read i).toNat := by
      rw [readSample_wide]
      cases e <;> simp [sampleOfBytes, Memory.readBytes, be, le]
    exact read.trans_lt byte
  | _ => cases h

theorem le_foldl_max {ix : List Byte} (m : Nat) :
    m ≤ ix.foldl (fun m b => max m b.toNat) m ∧ ∀ b ∈ ix, b.toNat ≤ ix.foldl (fun m b => max m b.toNat) m := by
  induction ix generalizing m with
  | nil => exact ⟨Nat.le_refl m, nofun⟩
  | cons x ix ih =>
    obtain ⟨start, rest⟩ := ih (max m x.toNat)
    refine ⟨(Nat.le_max_left ..).trans start, fun b hb => ?_⟩
    rcases List.mem_cons.mp hb with rfl | hb
    · exact (Nat.le_max_right ..).trans start
    · exact rest b hb

/-- The largest index is one of the stream that no other exceeds. -/
theorem maxIndex_eq {ix : List Byte} {b : Byte} (hb : b ∈ ix) (hle : ∀ x ∈ ix, x.toNat ≤ b.toNat) :
    maxIndex ix = b.toNat :=
  Nat.le_antisymm
    (Nat.le_of_lt_succ (foldl_max_lt (Nat.succ_pos _) fun x hx => Nat.lt_succ_of_le (hle x hx)))
    ((le_foldl_max 0).2 b hb)

/-- The largest of the stored indices is the largest of the samples. -/
theorem maxIndex_idxSamples {c : Config} {mem : Memory} {n m : Nat} {b : Bpp} {e : Endian} (hb : b.indexable = true)
    (hmem : ∃ i, i < n ∧ readSample c mem i b.bits e = m) (hle : ∀ i, i < n → readSample c mem i b.bits e ≤ m) :
    maxIndex (idxSamples c mem n b.bits e) = m := by
  obtain ⟨i, hi, rfl⟩ := hmem
  have stored : ∀ j, (BitVec.ofNat 8 (readSample c mem j b.bits e)).toNat = readSample c mem j b.bits e := fun j => by
    rw [BitVec.toNat_ofNat, Nat.mod_eq_of_lt (readSample_lt_of_indexable c mem j hb e)]
  rw [← stored i]
  simp only [idxSamples, readSamples, List.map_map]
  refine maxIndex_eq (List.mem_map_of_mem (List.mem_range.mpr hi)) fun x hx => ?_
  obtain ⟨j, hj, rfl⟩ := List.mem_map.mp hx
  rw [Function.comp_apply, stored, stored]
  exact hle j (List.mem_range.mp hj)

/-! ## The error -/

/-- The error names the first palette with too few entries. -/
theorem paletteErr_eq_some {s : State} {inBits k : Nat} {ix : List Byte} (hne : ix ≠ []) (hk : k < s.palCount.toNat)
    (hshort : s.entries inBits k ≤ maxIndex ix) (hfirst : ∀ j, j < k → maxIndex ix < s.entries inBits j) :
    s.paletteErr inBits ix = some (.paletteRange, paletteInfo (maxIndex ix) k) := by
  have found : ((List.range s.palCount.toNat).find? fun k => decide (s.entries inBits k ≤ maxIndex ix)) = some k := by
    simpa [List.find?_range_eq_some] using ⟨hshort, hk, hfirst⟩
  simp only [State.paletteErr, List.isEmpty_iff, hne, if_false, found, Option.map_some]

/-- `IDX` on legal operands raises what the palettes give. -/
theorem exec_idx_of_paletteErr {b : Bpp} {e : Endian} {s : State} {err : Err} (hb : b.indexable = true)
    (he : endianOf s.inEnd = some e) (hpal : s.paletteLegal) (hn : sampleBytes s.area b.bits ≤ s.inLen.toNat)
    (herr : s.paletteErr b.bits (idxSamples s.cfg s.inBuf s.area b.bits e) = some err) :
    exec (.idx b) s = .next (s.raise err.1 err.2) := by
  obtain ⟨lay, pe, hlay⟩ := hpal.palLayout
  change execIdx b s = _
  simp only [execIdx, indexSub_of_indexable hb, he, checkPalette_eq_none_iff.mpr hpal, hlay, checkBytes_of_le hn, herr,
    raising_eq]

/-- Settles O31. -/
theorem idxRaisesPaletteRange : Obligations.IdxRaisesPaletteRange := by
  intro b e s m k hb he hpal hn hmem hle hk hshort hfirst
  have largest : maxIndex (idxSamples s.cfg s.inBuf s.area b.bits e) = m := maxIndex_idxSamples hb hmem hle
  have some_index : idxSamples s.cfg s.inBuf s.area b.bits e ≠ [] := by
    obtain ⟨i, hi, -⟩ := hmem
    have : s.area ≠ 0 := Nat.ne_of_gt (Nat.zero_lt_of_lt hi)
    simpa [idxSamples, readSamples] using this
  have err := paletteErr_eq_some (inBits := b.bits) some_index hk (largest ▸ hshort) (largest ▸ hfirst)
  rw [largest] at err
  exact exec_idx_of_paletteErr hb he hpal hn err

end Sys2Proof.Machine
end

section
/-! SUPPORT. The pack stage of an indexed job (42_channel_codec.md rules R181, R194). -/

namespace Sys2Proof.Machine

/-! ## The canonical bytes of a colour table -/

/-- The sample of canonical ARGB is the pixel's four channels (42_channel_codec.md rule R181). -/
theorem encodeSample_canon (c : Config) (p : Pixel) :
    encodeSample c .argb (plainOf canonFmt) p =
      p.b.toNat + 256 * (p.g.toNat + 256 * (p.r.toNat + 256 * p.a.toNat)) := by
  have widths : channelWidths .argb (plainOf canonFmt) = [(.a, 8), (.r, 8), (.g, 8), (.b, 8)] := by decide
  have whole : ∀ x : Byte, resample x.toNat 8 8 = x.toNat := fun x => resample_self (by decide) x.isLt
  simp only [encodeSample, widths, encodeGroups, packChannel, whole, List.map_cons, List.map_nil, List.sum_cons,
    List.sum_nil]
  ring

theorem ofNat_toNat_add_mul (x : Byte) (v : Nat) : BitVec.ofNat 8 (x.toNat + 256 * v) = x := by
  refine BitVec.eq_of_toNat_eq ?_
  have := x.isLt
  rw [BitVec.toNat_ofNat]
  omega

theorem toNat_add_mul_div (x : Byte) (v : Nat) : (x.toNat + 256 * v) / 256 = v := by
  have := x.isLt
  omega

theorem sampleToBytes_canon (c : Config) (e : Endian) (p : Pixel) :
    sampleToBytes (8 * 4) e (encodeSample c .argb (plainOf canonFmt) p) = canonicalBytes e p := by
  have bytes : leBytes (encodeSample c .argb (plainOf canonFmt) p) 4 = [p.b, p.g, p.r, p.a] := by
    simp only [encodeSample_canon, leBytes, toNat_add_mul_div, ofNat_toNat_add_mul, BitVec.ofNat_toNat,
      BitVec.setWidth_eq]
  cases e <;> simp [sampleToBytes, bytes, canonicalBytes]

/-- The bytes of a table are those of its colours, one after another. -/
theorem tableBytes_eq (c : Config) (e : Endian) (px : List Pixel) :
    tableBytes c e px = (List.range px.length).flatMap fun i => canonicalBytes e (px.getD i fillPixel) := by
  refine (writeSamples_wide c 4 e _).trans ?_
  simp only [List.flatMap_map, sampleToBytes_canon]

theorem canonicalBytes_length (e : Endian) (p : Pixel) : (canonicalBytes e p).length = 4 := by cases e <;> rfl

theorem tableBytes_length (c : Config) (e : Endian) (px : List Pixel) : (tableBytes c e px).length = 4 * px.length := by
  simp [tableBytes_eq, List.length_flatMap, canonicalBytes_length, Nat.mul_comm]

theorem tableBytes_getD (c : Config) (e : Endian) {px : List Pixel} {a : Nat} (h : a < 4 * px.length) :
    (tableBytes c e px).getD a 0 = (canonicalBytes e (px.getD (a / 4) fillPixel)).getD (a % 4) 0 := by
  have hi : a / 4 < (List.range px.length).length := by rw [List.length_range]; omega
  have byte := getD_flatMap_of_length (f := fun i => canonicalBytes e (px.getD i fillPixel))
    (fun _ => canonicalBytes_length e _) hi (Nat.mod_lt a (by decide))
  rwa [Nat.div_add_mod', List.getD_eq_getElem _ _ hi, List.getElem_range, ← tableBytes_eq c] at byte

/-! ## The stage -/

theorem stageStep_packIndexed {s : State} {e : Endian} (hg : s.stage = .pack) (hix : s.isIndexed = true)
    (he : endianOf s.outEnd = some e) :
    stageStep s = .next (((s.writeOut ((List.range s.area).map fun i => s.idxBuf.getD i 0)).writeTbl
      (s.tables.map (tableBytes s.cfg e))).finish) := by
  simp only [stageStep, fetchStage, hg, hix, if_true, packIndexed, he]

/-- The length written for table `k`: its bytes, or 0 where there is no such table (log entry 9). -/
theorem tableLens_getElem? {n k : Nat} (hk : k < n) (bs : List (List Byte)) :
    (tableLens n bs)[k]? = some (BitVec.ofNat 32 (bs.getD k []).length) := by
  have hlen : k < (tableLens n bs).length := (tableLens_length n bs).symm ▸ hk
  have read := tableLens_getD n bs k
  rw [if_pos hk, List.getD_eq_getElem _ _ hlen] at read
  rw [List.getElem?_eq_getElem hlen, read]

/-- A buffer that is given no bytes keeps its own. -/
theorem writeTables_getD_beyond {ms : List Memory} {bs : List (List Byte)} {k : Nat} (h : bs.length ≤ k) :
    (writeTables ms bs).getD k [] = ms.getD k [] := by
  rw [writeTables_getD, List.getD_eq_default _ _ h, Memory.writeBytes]
  split
  · rfl
  · rename_i hk
    exact (List.getD_eq_default _ _ (Nat.not_lt.mp hk)).symm

/-- A buffer that is given bytes holds them from its start, and its own after them. -/
theorem writeTables_read {ms : List Memory} (hms : ms.all Memory.wf = true) {k : Nat} (hk : k < ms.length)
    (bs : List (List Byte)) (a : Nat) :
    ((writeTables ms bs).getD k []).read a =
      if a < (bs.getD k []).length then (bs.getD k []).getD a 0 else (ms.getD k []).read a := by
  rw [writeTables_getD, if_pos hk, Memory.read_writeBytes (getD_wf hms k)]
  simp

/-- Settles O32: the stage is one write of the indices, one of the tables and the end of the job. -/
theorem indexedPackWritesTables : Obligations.IndexedPackWritesTables := by
  intro s e hb hg hix he hwf
  obtain ⟨-, hout, -, htbl, -, hlens, -, hbufs⟩ := (State.buffersWf_iff s).mp hwf
  have lens : ∀ k, k < s.cfg.palMax → k < s.tblLen.length := fun k hk => hlens.symm ▸ hk
  have bufs : ∀ k, k < s.cfg.palMax → k < s.tbl.length := fun k hk => hbufs.symm ▸ hk
  have stored : ∀ k table, s.tables[k]? = some table →
      (s.tables.map (tableBytes s.cfg e)).getD k [] = tableBytes s.cfg e table := fun k table h => by
    simp [List.getD_eq_getElem?_getD, h]
  have beyond : ∀ k, s.tables.length ≤ k → (s.tables.map (tableBytes s.cfg e)).length ≤ k := fun k hk => by
    simpa using hk
  refine ⟨_, (step_busy hb).trans (stageStep_packIndexed hg hix he), rfl, rfl, rfl, rfl, ?outLen, fun a => ?out,
    fun k table hk ht => ⟨?len, fun a => ?bytes⟩, fun k hk => writeTables_getD_beyond (beyond k hk),
    fun k hk hmax => ?noTable, ⟨rfl, rfl, rfl, rfl, rfl, rfl⟩, ?frame⟩
  case outLen => simp
  case out =>
    refine (State.writeOut_read hout ((List.range s.area).map fun i => s.idxBuf.getD i 0) a).trans ?_
    rw [List.length_map, List.length_range]
    exact ite_congr rfl (fun ha => by simp [ha]) fun _ => rfl
  case len =>
    refine (tableLens_getElem? (lens k hk) _).trans ?_
    rw [stored k table ht, tableBytes_length]
  case bytes =>
    refine (writeTables_read htbl (bufs k hk) _ a).trans ?_
    rw [stored k table ht, tableBytes_length]
    exact ite_congr rfl (fun ha => tableBytes_getD s.cfg e ha) fun _ => rfl
  case noTable =>
    refine (tableLens_getElem? (lens k hmax) _).trans ?_
    rw [List.getD_eq_default _ _ (beyond k hk)]
    rfl
  case frame => simp [State.sameInputs]

end Sys2Proof.Machine
end
section
/-! SUPPORT. Where the bytes and nibbles of a raw sample stand (42_channel_codec.md rules R164 to R167). -/

namespace Sys2Proof.Machine

theorem le_map_range (f : Nat → Byte) (n : Nat) :
    le ((List.range n).map f) = ((List.range n).map fun j => 256 ^ j * (f j).toNat).sum := by
  induction n generalizing f with
  | zero => rfl
  | succ n ih =>
    have shift : ∀ j, 256 ^ (j + 1) * (f (j + 1)).toNat = 256 * (256 ^ j * (f (j + 1)).toNat) := fun j => by ring
    simp only [List.range_succ_eq_map, List.map_cons, List.map_map, le, List.sum_cons, Function.comp_def, shift,
      List.sum_map_mul_left, ih fun j => f (j + 1)]
    simp

theorem be_map_range (f : Nat → Byte) (n : Nat) :
    be ((List.range n).map f) = ((List.range n).map fun j => 256 ^ (n - 1 - j) * (f j).toNat).sum := by
  induction n with
  | zero => rfl
  | succ n ih =>
    have split : be ((List.range (n + 1)).map f) = (f n).toNat + 256 * be ((List.range n).map f) := by
      simp [be, List.range_succ, le]
    have shift : ∀ j ∈ List.range n, 256 ^ (n + 1 - 1 - j) * (f j).toNat = 256 * (256 ^ (n - 1 - j) * (f j).toNat) := by
      intro j hj
      have hj : j < n := List.mem_range.mp hj
      rw [show n + 1 - 1 - j = n - 1 - j + 1 by omega]
      ring
    rw [split, ih, List.range_succ, List.map_append, List.sum_append, List.map_congr_left shift,
      List.sum_map_mul_left]
    simp [Nat.add_comm]

/-- A sample of whole bytes in little-endian order. -/
theorem readSample_little (c : Config) (m : Memory) (i n : Nat) :
    readSample c m i (8 * n) .little = ((List.range n).map fun j => 256 ^ j * (m.read (i * n + j)).toNat).sum :=
  (readSample_wide c m i n .little).trans (le_map_range _ n)

/-- A sample of whole bytes in big-endian order. -/
theorem readSample_big (c : Config) (m : Memory) (i n : Nat) :
    readSample c m i (8 * n) .big = ((List.range n).map fun j => 256 ^ (n - 1 - j) * (m.read (i * n + j)).toNat).sum :=
  (readSample_wide c m i n .big).trans (be_map_range _ n)

theorem nibbleSwapped_iff {c : Config} {e : Endian} :
    nibbleSwapped c e = true ↔ c.nibbleSwapOnNative = true ∧ e = c.nativeEnd := by
  simp [nibbleSwapped]

theorem swapNibbles_div {v : Nat} (h : v < 256) : swapNibbles v / 16 = v % 16 := by unfold swapNibbles; omega

theorem swapNibbles_mod {v : Nat} (h : v < 256) : swapNibbles v % 16 = v / 16 := by unfold swapNibbles; omega

/-- A 4-bit sample is the low nibble of its byte if it is the second one or the quirk is active, not if both. -/
theorem readSample_four_bits (c : Config) (m : Memory) (i : Nat) (e : Endian) :
    readSample c m i 4 e =
      if i % 2 = 0 ↔ nibbleSwapped c e = true then (m.read (i / 2)).toNat % 16 else (m.read (i / 2)).toNat / 16 := by
  have byte := (m.read (i / 2)).isLt
  cases h : nibbleSwapped c e with
  | false => by_cases hi : i % 2 = 0 <;> simp [readSample, h, hi]
  | true => by_cases hi : i % 2 = 0 <;> simp [readSample, h, hi, swapNibbles_div byte, swapNibbles_mod byte]

/-- Settles O23. -/
theorem samplesAreReadAsBytes : Obligations.SamplesAreReadAsBytes := by
  refine fun c m i e => ⟨fun n _ => ⟨readSample_little c m i n, readSample_big c m i n⟩, ?_⟩
  simp only [readSample_four_bits, nibbleSwapped_iff]

end Sys2Proof.Machine
end

section
/-! SUPPORT. The thirteen layouts one by one (42_channel_codec.md rules R169 to R173, R176 to R179). -/

namespace Sys2Proof.Machine

/-! ## Reading -/

/-- The channels of a layout below `ch`, whose bits stand under its own (42_channel_codec.md rule R169). -/
def channelsBelow (lay : Layout) (ch : Chan) : List Chan := (lay.channels.dropWhile fun c => c ≠ ch).tail

/-- The group of a channel stands above those of the channels after it. -/
theorem group_mem_bitGroups (raw : Nat) (f : PlainFmt) {ch : Chan} {cs : List Chan} (h : ch ∈ cs) :
    (ch, bitsOf raw ((cs.dropWhile fun c => c ≠ ch).tail.map f.width).sum (f.width ch)) ∈
      bitGroups raw (cs.map fun c => (c, f.width c)) := by
  induction cs with
  | nil => cases h
  | cons d cs ih =>
    by_cases hd : d = ch
    · subst hd
      simp [bitGroups, Function.comp_def]
    · have rest := ih ((List.mem_cons.mp h).resolve_left (Ne.symm hd))
      rw [List.dropWhile_cons_of_pos (by simpa using hd)]
      exact List.mem_cons_of_mem _ rest

/-- A layout's channel is its bit group resampled; a channel it does not name has no value. -/
theorem sampleChannel_eq (lay : Layout) (f : PlainFmt) (raw : Nat) (ch : Chan) :
    sampleChannel lay f raw ch =
      if ch ∈ lay.channels then
        some (resample (bitsOf raw ((channelsBelow lay ch).map f.width).sum (f.width ch)) (f.width ch) 8)
      else none := by
  split
  · rename_i h
    have group : (ch, bitsOf raw ((channelsBelow lay ch).map f.width).sum (f.width ch)) ∈
        bitGroups raw (channelWidths lay f) := group_mem_bitGroups raw f h
    exact (sampleChannel_of_group group :)
  · rename_i h
    exact sampleChannel_of_not_mem h f raw

/-- Settles O24: the width of the channels below a channel is the place of its bits. -/
theorem layoutsDecodeTheirChannels : Obligations.LayoutsDecodeTheirChannels := by
  intro f raw part fill r g b a
  refine ⟨?rgb, ?rgba, ?bgra, ?argb, ?abgr, ?rgbx, ?bgrx, ?xrgb, ?xbgr, ?l, ?a, ?la, ?al⟩
  all_goals
    simp [decodeSample, sampleChannel_eq, channelsBelow, Layout.channels, PlainFmt.width, forceValue_eq, part, fill,
      r, g, b, a, Nat.add_comm, Nat.add_left_comm]

/-! ## Packing -/

/-- The channels of a list pack one above the other. -/
theorem encodeGroups_cons (c : Config) (f : PlainFmt) (p : Pixel) (ch : Chan) (cs : List Chan) :
    encodeGroups c f p ((ch :: cs).map fun c => (c, f.width c)) =
      packChannel c f p ch (f.width ch) * 2 ^ (cs.map f.width).sum +
        encodeGroups c f p (cs.map fun c => (c, f.width c)) := by
  simp [encodeGroups, Function.comp_def]

/-- Settles O26. -/
theorem layoutsPackTheirChannels : Obligations.LayoutsPackTheirChannels := by
  intro c f p hc part pad luma r g b a
  have padding : packChannel c f p .x f.abits = pad := packChannel_x c f p f.abits
  have mean : packChannel c f p .l f.rbits = luma := by simp only [packChannel, lumaEncode_default hc, luma]
  have named : ∀ n, packChannel c f p .r n = part p.r n ∧ packChannel c f p .g n = part p.g n ∧
    packChannel c f p .b n = part p.b n ∧ packChannel c f p .a n = part p.a n := fun n => ⟨rfl, rfl, rfl, rfl⟩
  have none_left : encodeGroups c f p [] = 0 := rfl
  refine ⟨?rgb, ?rgba, ?bgra, ?argb, ?abgr, ?rgbx, ?bgrx, ?xrgb, ?xbgr, ?l, ?a, ?la, ?al⟩
  all_goals
    simp only [encodeSample, channelWidths, Layout.channels, encodeGroups_cons]
    simp [none_left, padding, mean, named, PlainFmt.width, r, g, b, a, Nat.add_assoc]

end Sys2Proof.Machine
end

section
/-! SUPPORT. The DXT and RGTC codecs texel by texel: where the fields of a block stand, what a selector names in a palette
or a ramp, and the value of each texel (43_dxt_rgtc.md rules R200 to R221). -/

namespace Sys2Proof.Machine

/-! ## Where the fields of a block stand -/

/-- The fields of the colour sub-block at a place in a block (43_dxt_rgtc.md rule R201). -/
theorem colorBlock_bitsOf (v lo : Nat) :
    colorBlock (bitsOf v lo 64) = ⟨bitsOf v lo 16, bitsOf v (lo + 16) 16, bitsOf v (lo + 32) 32⟩ := by
  simp only [colorBlock, Nat.add_zero, bitsOf_bitsOf v lo 64 (l := 0) (k := 16) (by decide),
    bitsOf_bitsOf v lo 64 (l := 16) (k := 16) (by decide), bitsOf_bitsOf v lo 64 (l := 32) (k := 32) (by decide)]

/-- References below selectors (43_dxt_rgtc.md rule R201). -/
theorem colorBlock_of_fields {refs sel : Nat} (hr : refs < 2 ^ 32) (hs : sel < 2 ^ 32) :
    colorBlock (refs + 2 ^ 32 * sel) = ⟨bitsOf refs 0 16, bitsOf refs 16 16, sel⟩ := by
  rw [colorBlock, bitsOf_below refs sel (by decide), bitsOf_below refs sel (by decide), bitsOf_high hr,
    Nat.mod_eq_of_lt hs]

/-- Selectors below references (43_dxt_rgtc.md rule R208). -/
theorem colorBlockPsp_of_fields {refs sel : Nat} (hs : sel < 2 ^ 32) :
    colorBlockPsp (sel + 2 ^ 32 * refs) = ⟨bitsOf refs 0 16, bitsOf refs 16 16, sel⟩ := by
  rw [colorBlockPsp, bitsOf_above hs refs 0, bitsOf_above hs refs 16, bitsOf_below sel refs (by decide),
    bitsOf_zero sel, Nat.mod_eq_of_lt hs]

theorem colorBlockPsp_eq_colorBlock {refs sel : Nat} (hr : refs < 2 ^ 32) (hs : sel < 2 ^ 32) :
    colorBlockPsp (sel + 2 ^ 32 * refs) = colorBlock (refs + 2 ^ 32 * sel) :=
  (colorBlockPsp_of_fields hs).trans (colorBlock_of_fields hr hs).symm

/-- Reference bytes below selectors (43_dxt_rgtc.md rule R214), against the PSP order (rule R218). -/
theorem rampBlockPsp_eq_rampBlockU {asel arefs : Nat} (hs : asel < 2 ^ 48) (hr : arefs < 2 ^ 16) :
    rampBlockPsp (asel + 2 ^ 48 * arefs) = rampBlockU (arefs + 2 ^ 16 * asel) := by
  rw [rampBlockPsp, rampBlockU, bitsOf_above hs arefs 0, bitsOf_above hs arefs 8, bitsOf_below asel arefs (by decide),
    bitsOf_below arefs asel (by decide), bitsOf_below arefs asel (by decide), bitsOf_high hr, bitsOf_zero asel]

/-- The halves of a 16-byte block (43_dxt_rgtc.md rules R211, R217). -/
theorem bitsOf_halves {low high : Nat} (hl : low < 2 ^ 64) (hh : high < 2 ^ 64) :
    bitsOf (low + 2 ^ 64 * high) 0 64 = low ∧ bitsOf (low + 2 ^ 64 * high) 64 64 = high := by
  rw [bitsOf_below low high (by decide), bitsOf_zero, bitsOf_high hl]
  exact ⟨Nat.mod_eq_of_lt hl, Nat.mod_eq_of_lt hh⟩

/-- Settles O40. -/
theorem pspKindsArePositional : Obligations.PspKindsArePositional := by
  intro refs sel alpha asel arefs hrefs hsel halpha hasel harefs
  have color := colorBlockPsp_eq_colorBlock hrefs hsel
  obtain ⟨pspLow, pspHigh⟩ := bitsOf_halves (low := sel + 2 ^ 32 * refs) (high := alpha) (by omega) halpha
  obtain ⟨low, high⟩ := bitsOf_halves (high := refs + 2 ^ 32 * sel) halpha (by omega)
  obtain ⟨pspRampLow, pspRampHigh⟩ :=
    bitsOf_halves (low := sel + 2 ^ 32 * refs) (high := asel + 2 ^ 48 * arefs) (by omega) (by omega)
  obtain ⟨rampLow, rampHigh⟩ :=
    bitsOf_halves (low := arefs + 2 ^ 16 * asel) (high := refs + 2 ^ 32 * sel) (by omega) (by omega)
  refine ⟨?dxt1, ?dxt3, ?dxt5⟩
  case dxt1 => rw [dxt1psp, dxt1, color]
  case dxt3 => rw [dxt3psp, dxt3, pspLow, pspHigh, low, high, color]
  case dxt5 =>
    rw [dxt5psp, dxt5, pspRampLow, pspRampHigh, rampLow, rampHigh, color, rampBlockPsp_eq_rampBlockU hasel harefs]

/-! ## Ramp sub-blocks -/

/-- The value that selector `k` names in the unsigned ramp (43_dxt_rgtc.md rule R215). -/
def rampEntryU (a0 a1 k : Nat) : Nat :=
  if k = 0 then a0 else if k = 1 then a1
  else if a1 < a0 then ((8 - k) * a0 + (k - 1) * a1) / 7
  else if k = 6 then 0 else if k = 7 then 255 else ((6 - k) * a0 + (k - 1) * a1) / 5

theorem rampU_getD (a0 a1 : Nat) {k : Nat} (hk : k < 8) : (rampU a0 a1).getD k 0 = rampEntryU a0 a1 k := by
  unfold rampU rampEntryU
  by_cases h : a1 < a0
  · simp only [if_pos h]; interval_cases k <;> rfl
  · simp only [if_neg h]; interval_cases k <;> rfl

/-- The value that selector `k` names in the signed ramp, before the bias (43_dxt_rgtc.md rule R221). -/
def rampEntryS (s0 s1 : Int) (k : Nat) : Int :=
  if k = 0 then s0 else if k = 1 then s1
  else if s1 < s0 then Int.tdiv ((8 - (k : Int)) * s0 + ((k : Int) - 1) * s1) 7
  else if k = 6 then -128 else if k = 7 then 127 else Int.tdiv ((6 - (k : Int)) * s0 + ((k : Int) - 1) * s1) 5

theorem rampS_getD (c : Config) (b0 b1 : Nat) {k : Nat} (hk : k < 8) :
    (rampS c b0 b1).getD k 0 = srgtcByte c (rampEntryS (sext 8 b0) (sext 8 b1) k) := by
  unfold rampS rampEntryS
  by_cases h : sext 8 b1 < sext 8 b0
  · simp only [if_pos h]; interval_cases k <;> rfl
  · simp only [if_neg h]; interval_cases k <;> rfl

/-- A signed byte (43_dxt_rgtc.md rule R221). -/
def SignedByte (v : Int) : Prop := -128 ≤ v ∧ v ≤ 127

theorem sext_signedByte (b : Nat) : SignedByte (sext 8 b) :=
  ⟨(sext_range (by decide)).1, Int.le_of_lt_add_one (sext_range (by decide)).2⟩

/-- A weighted mean of two signed bytes is a signed byte. -/
theorem tdiv_mean_signedByte {s0 s1 w0 w1 d : Int} (h0 : SignedByte s0) (h1 : SignedByte s1) (hw0 : 0 ≤ w0)
    (hw1 : 0 ≤ w1) (hw : w0 + w1 = d) (hd : 0 < d) : SignedByte (Int.tdiv (w0 * s0 + w1 * s1) d) := by
  obtain ⟨least0, greatest0⟩ := h0
  obtain ⟨least1, greatest1⟩ := h1
  have least : -128 * d ≤ w0 * s0 + w1 * s1 := by nlinarith
  have greatest : w0 * s0 + w1 * s1 ≤ 127 * d := by nlinarith
  constructor
  · calc -128 = Int.tdiv (-128 * d) d := (Int.mul_tdiv_cancel _ hd.ne').symm
      _ ≤ _ := Int.tdiv_le_tdiv hd least
  · calc _ ≤ Int.tdiv (127 * d) d := Int.tdiv_le_tdiv hd greatest
      _ = 127 := Int.mul_tdiv_cancel _ hd.ne'

/-- Every entry of the signed ramp is a signed byte, so that the default bias takes it to a byte. -/
theorem rampEntryS_signedByte {s0 s1 : Int} (h0 : SignedByte s0) (h1 : SignedByte s1) {k : Nat} (hk : k < 8) :
    SignedByte (rampEntryS s0 s1 k) := by
  unfold rampEntryS
  split
  · exact h0
  split
  · exact h1
  split
  · exact tdiv_mean_signedByte h0 h1 (by omega) (by omega) (by omega) (by decide)
  split
  · exact ⟨by decide, by decide⟩
  split
  · exact ⟨by decide, by decide⟩
  · exact tdiv_mean_signedByte h0 h1 (by omega) (by omega) (by omega) (by decide)

theorem selectRamp_getElem? (ramp : List Nat) (v : Nat) {t : Nat} (ht : t < 16) :
    (selectRamp ramp (bitsOf v 16 48))[t]? = some (ramp.getD (bitsOf v (16 + 3 * t) 3) 0) := by
  have sel : bitsOf (bitsOf v 16 48) (3 * t) 3 = bitsOf v (16 + 3 * t) 3 := bitsOf_bitsOf v 16 48 (by omega)
  simp [selectRamp, ht, sel]

/-- A value of an unsigned ramp sub-block (43_dxt_rgtc.md rule R216). -/
theorem rampBlockU_getElem? (v : Nat) {t : Nat} (ht : t < 16) :
    (rampBlockU v)[t]? = some (rampEntryU (bitsOf v 0 8) (bitsOf v 8 8) (bitsOf v (16 + 3 * t) 3)) := by
  rw [rampBlockU, selectRamp_getElem? _ v ht, rampU_getD _ _ (bitsOf_lt v _ 3)]

/-- A value of a signed ramp sub-block under the default bias (43_dxt_rgtc.md rule R221). -/
theorem rampBlockS_getElem? {c : Config} (hc : c.srgtcBias = 128) (v : Nat) {t : Nat} (ht : t < 16) :
    (rampBlockS c v)[t]? =
      some (rampEntryS (sext 8 (bitsOf v 0 8)) (sext 8 (bitsOf v 8 8)) (bitsOf v (16 + 3 * t) 3) + 128).toNat := by
  have hk : bitsOf v (16 + 3 * t) 3 < 8 := bitsOf_lt v _ 3
  obtain ⟨least, greatest⟩ :=
    rampEntryS_signedByte (sext_signedByte (bitsOf v 0 8)) (sext_signedByte (bitsOf v 8 8)) hk
  rw [rampBlockS, selectRamp_getElem? _ v ht, rampS_getD c _ _ hk, srgtcByte_default hc least greatest]

theorem rampBlockU_lowHalf (v : Nat) : rampBlockU (bitsOf v 0 64) = rampBlockU v := by
  simp [rampBlockU, bitsOf_bitsOf]

theorem rampBlockS_lowHalf (c : Config) (v : Nat) : rampBlockS c (bitsOf v 0 64) = rampBlockS c v := by
  simp [rampBlockS, bitsOf_bitsOf]

/-! ## Colour sub-blocks -/

/-- The expansion of a 16-bit reference (43_dxt_rgtc.md rule R202). -/
theorem exp565_eq {c : Nat} (h : c < 2 ^ 16) :
    exp565 c = (c / 2048 * 8 + c / 2048 / 4, c / 32 % 64 * 4 + c / 32 % 64 / 16, c % 32 * 8 + c % 32 / 4) := by
  have red : bitsOf c 11 5 = c / 2048 := Nat.mod_eq_of_lt (by omega)
  have blue : bitsOf c 0 5 = c % 32 := bitsOf_zero c 5
  rw [exp565, red, blue]
  rfl

theorem palette4_getD (cb : ColorBlock) {sel : Nat} (h : sel < 4) :
    (palette4 cb).getD sel fillPixel =
      if sel = 0 then mix565 (fun a _ => a) cb else if sel = 1 then mix565 (fun _ b => b) cb
      else if sel = 2 then mix565 (fun a b => (2 * a + b) / 3) cb else mix565 (fun a b => (a + 2 * b) / 3) cb := by
  interval_cases sel <;> rfl

theorem palette3_getD (cb : ColorBlock) {sel : Nat} (h : sel < 4) :
    (palette3 cb).getD sel fillPixel =
      if sel = 0 then mix565 (fun a _ => a) cb else if sel = 1 then mix565 (fun _ b => b) cb
      else if sel = 2 then mix565 (fun a b => (a + b) / 2) cb else fillPixel := by
  interval_cases sel <;> rfl

/-- All four colours have alpha 255 (43_dxt_rgtc.md rule R203). -/
theorem palette4_getD_opaque (cb : ColorBlock) {sel : Nat} (h : sel < 4) :
    { (palette4 cb).getD sel fillPixel with a := 255 } = (palette4 cb).getD sel fillPixel := by
  interval_cases sel <;> rfl

theorem dxt1_getElem? (v : Nat) {t : Nat} (ht : t < 16) :
    (dxt1 v)[t]? = some ((paletteDxt1 (colorBlock v)).getD (bitsOf v (32 + 2 * t) 2) fillPixel) := by
  have sel : bitsOf (bitsOf v 32 32) (2 * t) 2 = bitsOf v (32 + 2 * t) 2 := bitsOf_bitsOf v 32 32 (by omega)
  simp [dxt1, dxt1Tile, selectColors, ht, ← sel, colorBlock]

/-- A texel of a colour sub-block with separate alphas (43_dxt_rgtc.md rules R209, R211, R217). -/
theorem alphaTile_getElem? (v : Nat) {alphas : List Nat} {t alpha : Nat} (ht : t < 16) (h : alphas[t]? = some alpha) :
    (alphaTile (colorBlock (bitsOf v 64 64)) alphas)[t]? =
      some { (palette4 (colorBlock (bitsOf v 64 64))).getD (bitsOf v (96 + 2 * t) 2) fillPixel with
        a := BitVec.ofNat 8 alpha } := by
  have sel : bitsOf (bitsOf v 96 32) (2 * t) 2 = bitsOf v (96 + 2 * t) 2 := bitsOf_bitsOf v 96 32 (by omega)
  simp [alphaTile, ht, h, ← sel, colorBlock_bitsOf]

/-- The alpha of a texel of DXT3 (43_dxt_rgtc.md rule R210). -/
theorem dxt3Alphas_getElem? (v : Nat) {t : Nat} (ht : t < 16) :
    (dxt3Alphas (bitsOf v 0 64))[t]? = some (17 * bitsOf v (4 * t) 4) := by
  have nibble : bitsOf (bitsOf v 0 64) (4 * t) 4 = bitsOf v (4 * t) 4 := by
    simpa using bitsOf_bitsOf v 0 64 (l := 4 * t) (k := 4) (by omega)
  simp [dxt3Alphas, ht, nibble]

theorem dxt3_getElem? (v : Nat) {t : Nat} (ht : t < 16) :
    (dxt3 v)[t]? = some { (palette4 (colorBlock (bitsOf v 64 64))).getD (bitsOf v (96 + 2 * t) 2) fillPixel with
      a := BitVec.ofNat 8 (17 * bitsOf v (4 * t) 4) } :=
  alphaTile_getElem? v ht (dxt3Alphas_getElem? v ht)

theorem dxt5_getElem? (v : Nat) {t : Nat} (ht : t < 16) :
    (dxt5 v)[t]? = some { (palette4 (colorBlock (bitsOf v 64 64))).getD (bitsOf v (96 + 2 * t) 2) fillPixel with
      a := BitVec.ofNat 8 (rampEntryU (bitsOf v 0 8) (bitsOf v 8 8) (bitsOf v (16 + 3 * t) 3)) } := by
  rw [dxt5, rampBlockU_lowHalf]
  exact alphaTile_getElem? v ht (rampBlockU_getElem? v ht)

/-! ## DXT1-alt -/

/-- The two bytes of a reference exchanged (43_dxt_rgtc.md rule R207). -/
theorem swap16_of_bytes {low high : Nat} (hl : low < 256) (hh : high < 256) :
    swap16 (low + 256 * high) = high + 256 * low := by
  simp only [swap16, bitsOf]
  omega

/-- The references of a colour sub-block from their bytes. -/
theorem colorBlock_of_bytes {b0 b1 b2 b3 sel : Nat} (h0 : b0 < 256) (h1 : b1 < 256) (h2 : b2 < 256) (h3 : b3 < 256)
    (hs : sel < 2 ^ 32) :
    colorBlock (b0 + 2 ^ 8 * b1 + 2 ^ 16 * b2 + 2 ^ 24 * b3 + 2 ^ 32 * sel) =
      ⟨b0 + 256 * b1, b2 + 256 * b3, sel⟩ := by
  have first : bitsOf (b0 + 2 ^ 8 * b1 + 2 ^ 16 * b2 + 2 ^ 24 * b3) 0 16 = b0 + 256 * b1 := by
    simp only [bitsOf]; omega
  have second : bitsOf (b0 + 2 ^ 8 * b1 + 2 ^ 16 * b2 + 2 ^ 24 * b3) 16 16 = b2 + 256 * b3 := by
    simp only [bitsOf]; omega
  rw [colorBlock_of_fields (by omega) hs, first, second]

theorem dxt1alt_of_bytes (c : Config) {b0 b1 b2 b3 sel : Nat} (h0 : b0 < 256) (h1 : b1 < 256) (h2 : b2 < 256)
    (h3 : b3 < 256) (hs : sel < 2 ^ 32) :
    dxt1alt c (b0 + 2 ^ 8 * b1 + 2 ^ 16 * b2 + 2 ^ 24 * b3 + 2 ^ 32 * sel) =
      if c.dxt1AltByteswap = true then dxt1 (b1 + 2 ^ 8 * b0 + 2 ^ 16 * b3 + 2 ^ 24 * b2 + 2 ^ 32 * sel)
      else dxt1 (b0 + 2 ^ 8 * b1 + 2 ^ 16 * b2 + 2 ^ 24 * b3 + 2 ^ 32 * sel) := by
  simp only [dxt1alt, dxt1]
  split
  · rw [colorBlock_of_bytes h0 h1 h2 h3 hs, colorBlock_of_bytes h1 h0 h3 h2 hs, swap16_of_bytes h0 h1,
      swap16_of_bytes h2 h3]
  · rfl

/-- Settles O39: each selector's palette entry is a mixture of the two expanded references. -/
theorem dxtTexelsFollowTheRules : Obligations.DxtTexelsFollowTheRules := by
  unfold Obligations.DxtTexelsFollowTheRules
  intro red green blue mixed four three
  have mix : ∀ f {c0 c1 : Nat} (sel : Nat) (alpha : Byte), c0 < 2 ^ 16 → c1 < 2 ^ 16 →
      { mix565 f ⟨c0, c1, sel⟩ with a := alpha } = mixed f c0 c1 alpha := by
    intro f c0 c1 sel alpha h0 h1
    simp only [mix565, exp565_eq h0, exp565_eq h1, pixelOf, mixed, red, green, blue]
  have fourColours : ∀ {cb : ColorBlock} {sel : Nat} (alpha : Byte), cb.c0 < 2 ^ 16 → cb.c1 < 2 ^ 16 → sel < 4 →
      { (palette4 cb).getD sel fillPixel with a := alpha } = four cb.c0 cb.c1 sel alpha := by
    intro cb sel alpha h0 h1 hsel
    rw [palette4_getD cb hsel]
    simp only [four, ← mix _ cb.sel alpha h0 h1]
    split_ifs <;> rfl
  have threeColours : ∀ {cb : ColorBlock} {sel : Nat}, cb.c0 < 2 ^ 16 → cb.c1 < 2 ^ 16 → sel < 4 →
      (palette3 cb).getD sel fillPixel = three cb.c0 cb.c1 sel := by
    intro cb sel h0 h1 hsel
    rw [palette3_getD cb hsel]
    simp only [three, ← mix _ cb.sel 255 h0 h1]
    split_ifs <;> rfl
  refine ⟨fun v t ht => ?dxt1, fun v t ht => ?alphas, fun c b0 b1 b2 b3 sel h0 h1 h2 h3 hs =>
    dxt1alt_of_bytes c h0 h1 h2 h3 hs⟩
  case dxt1 =>
    intro c0 c1 sel
    have hc0 : (colorBlock v).c0 < 2 ^ 16 := bitsOf_lt v 0 16
    have hc1 : (colorBlock v).c1 < 2 ^ 16 := bitsOf_lt v 16 16
    have hsel : sel < 4 := bitsOf_lt v _ 2
    have texel := dxt1_getElem? v ht
    by_cases h : (colorBlock v).c0 ≤ (colorBlock v).c1
    · rw [paletteDxt1, if_pos h, threeColours hc0 hc1 hsel] at texel
      rw [if_pos (show c0 ≤ c1 from h)]
      exact ⟨texel, fun above => absurd h (Nat.not_le_of_lt above), fun _ last => texel.trans (by rw [last]; rfl)⟩
    · rw [paletteDxt1, if_neg h, ← palette4_getD_opaque _ hsel] at texel
      rw [if_neg (show ¬ c0 ≤ c1 from h)]
      exact ⟨texel.trans (congrArg some (fourColours 255 hc0 hc1 hsel)),
        fun _ => ⟨_, texel, (by decide : (255 : Byte) ≠ 0)⟩, fun below => absurd below h⟩
  case alphas =>
    intro c0 c1 sel
    have colour : ∀ alpha : Byte,
        { (palette4 (colorBlock (bitsOf v 64 64))).getD sel fillPixel with a := alpha } = four c0 c1 sel alpha := by
      intro alpha
      rw [colorBlock_bitsOf]
      exact fourColours alpha (bitsOf_lt v 64 16) (bitsOf_lt v 80 16) (bitsOf_lt v _ 2)
    exact ⟨(dxt3_getElem? v ht).trans (congrArg some (colour _)), _,
      (dxt5_getElem? v ht).trans (congrArg some (colour _))⟩

/-! ## The ramp kinds -/

theorem redTile_getElem? {vs : List Nat} {t r : Nat} (h : vs[t]? = some r) :
    (redTile vs)[t]? = some (pixelOf r 0 0 255) := by
  simp [redTile, h]

theorem redGreenTile_getElem? {v0 v1 : List Nat} {t r g : Nat} (h0 : v0[t]? = some r) (h1 : v1[t]? = some g) :
    (redGreenTile v0 v1)[t]? = some (pixelOf r g 0 255) := by
  simp [redGreenTile, List.getElem?_zipWith, h0, h1]

/-- Settles O41: each value of a ramp sub-block is the entry its selector names. -/
theorem rampKindsFollowTheRampRule : Obligations.RampKindsFollowTheRampRule := by
  unfold Obligations.RampKindsFollowTheRampRule
  intro entryU valueU entryS valueS c v t hc ht
  have low := rampBlockU_getElem? v ht
  have high := rampBlockU_getElem? (bitsOf v 64 64) ht
  have lowS := rampBlockS_getElem? hc v ht
  have highS := rampBlockS_getElem? hc (bitsOf v 64 64) ht
  refine ⟨?rgtc1, ?rgtc2, ?rgtc1s, ?rgtc2s, ?dxt5⟩
  case rgtc1 => exact redTile_getElem? low
  case rgtc2 => rw [rgtc2, rampBlockU_lowHalf]; exact redGreenTile_getElem? low high
  case rgtc1s => exact redTile_getElem? lowS
  case rgtc2s => rw [rgtc2s, rampBlockS_lowHalf]; exact redGreenTile_getElem? lowS highS
  case dxt5 => exact ⟨_, dxt5_getElem? v ht, rfl⟩

end Sys2Proof.Machine
end

section
/-! SUPPORT. The ETC1 and ETC1A4 codecs texel by texel: where the words of the sub-blocks stand, and the base colour,
the offset and the clamp of a texel (44_etc1.md rules R240 to R251). -/

namespace Sys2Proof.Machine

/-! ## The words of the sub-blocks -/

/-- A word of a stream of 64-bit words, read back from the little-endian number of the stream. -/
theorem bitsOf_stackedWords (ws : List Nat) (h : ∀ w ∈ ws, w < 2 ^ 64) (i : Nat) :
    bitsOf (Nat.ofDigits (2 ^ 64) ws) (64 * i) 64 = ws.getD i 0 := by
  induction ws generalizing i with
  | nil => simp [bitsOf]
  | cons w ws ih =>
    obtain ⟨hw, hws⟩ := List.forall_mem_cons.mp h
    rw [Nat.ofDigits_cons]
    cases i with
    | zero => exact (bitsOf_below w _ (by decide)).trans ((bitsOf_zero w 64).trans (Nat.mod_eq_of_lt hw))
    | succ i =>
      rw [Nat.mul_succ, Nat.add_comm (64 * i), List.getD_cons_succ, ← ih hws i]
      exact bitsOf_above hw ..

theorem stackedWords_four (c0 c1 c2 c3 : Nat) :
    c0 + 2 ^ 64 * c1 + 2 ^ 128 * c2 + 2 ^ 192 * c3 = Nat.ofDigits (2 ^ 64) [c0, c1, c2, c3] := by
  simp only [Nat.ofDigits_cons, Nat.ofDigits_nil]
  ring

/-- Alpha words and colour words in turn (44_etc1.md rule R251). -/
theorem stackedWords_interleaved (a0 c0 a1 c1 a2 c2 a3 c3 : Nat) :
    a0 + 2 ^ 64 * c0 + 2 ^ 128 * a1 + 2 ^ 192 * c1 + 2 ^ 256 * a2 + 2 ^ 320 * c2 + 2 ^ 384 * a3 + 2 ^ 448 * c3 =
      Nat.ofDigits (2 ^ 64) [a0, c0, a1, c1, a2, c2, a3, c3] := by
  simp only [Nat.ofDigits_cons, Nat.ofDigits_nil, Nat.mul_zero, Nat.add_zero, Nat.mul_add, Nat.add_assoc,
    ← Nat.mul_assoc, ← Nat.pow_add, Nat.reduceAdd, -Nat.reducePow]

theorem etc1Tile_getElem? (c : Config) (word : Nat → Nat) (alpha : Nat → Option Nat) {x y : Nat} (hx : x < 8)
    (hy : y < 8) :
    (etc1Tile c word alpha)[8 * y + x]? =
      some (etc1Pixel c (word (y / 4 * 2 + x / 4)) (alpha (y / 4 * 2 + x / 4)) (x % 4) (y % 4)) := by
  have column : (8 * y + x) % 8 = x := by omega
  have row : (8 * y + x) / 8 = y := by omega
  have place : 8 * y + x < 64 := by omega
  simp only [etc1Tile, List.getElem?_map, List.getElem?_range place, Option.map_some, column, row]

section
variable {c0 c1 c2 c3 : Nat} (h0 : c0 < 2 ^ 64) (h1 : c1 < 2 ^ 64) (h2 : c2 < 2 ^ 64) (h3 : c3 < 2 ^ 64)
  {x y : Nat} (hx : x < 8) (hy : y < 8)
include h0 h1 h2 h3 hx hy

/-- A texel of `BLK.ETC1` comes from the word of its sub-block (44_etc1.md rules R240, R249). -/
theorem etc1_getElem? (c : Config) :
    (etc1 c (c0 + 2 ^ 64 * c1 + 2 ^ 128 * c2 + 2 ^ 192 * c3))[8 * y + x]? =
      some (etc1Pixel c ([c0, c1, c2, c3].getD (y / 4 * 2 + x / 4) 0) none (x % 4) (y % 4)) := by
  rw [etc1, etc1Tile_getElem? c _ _ hx hy, stackedWords_four, bitsOf_stackedWords _ (by simp [-Nat.reducePow, *])]

/-- A texel of `BLK.ETC1A4` comes from the two words of its sub-block (44_etc1.md rules R240, R251). -/
theorem etc1a4_getElem? (c : Config) {a0 a1 a2 a3 : Nat} (g0 : a0 < 2 ^ 64) (g1 : a1 < 2 ^ 64) (g2 : a2 < 2 ^ 64)
    (g3 : a3 < 2 ^ 64) :
    (etc1a4 c (a0 + 2 ^ 64 * c0 + 2 ^ 128 * a1 + 2 ^ 192 * c1 + 2 ^ 256 * a2 + 2 ^ 320 * c2 + 2 ^ 384 * a3 +
        2 ^ 448 * c3))[8 * y + x]? =
      some (etc1Pixel c ([c0, c1, c2, c3].getD (y / 4 * 2 + x / 4) 0)
        (some ([a0, a1, a2, a3].getD (y / 4 * 2 + x / 4) 0)) (x % 4) (y % 4)) := by
  have hsub : y / 4 * 2 + x / 4 < 4 := by omega
  rw [etc1a4, etc1Tile_getElem? c _ _ hx hy, stackedWords_interleaved]
  generalize y / 4 * 2 + x / 4 = sub at hsub ⊢
  have read := bitsOf_stackedWords [a0, c0, a1, c1, a2, c2, a3, c3] (by simp [-Nat.reducePow, *])
  have alphaWord : 128 * sub = 64 * (2 * sub) := by omega
  have colourWord : 128 * sub + 64 = 64 * (2 * sub + 1) := by omega
  rw [colourWord, alphaWord, read, read]
  interval_cases sub <;> rfl

end

/-! ## Base colours -/

/-- A 3-bit delta added modulo 32, in numbers that are not negative: -4 .. -1 are 28 .. 31 (44_etc1.md rule R245). -/
theorem add_sext3_mod32 (base : Nat) {d : Nat} (hd : d < 8) :
    (((base : Int) + sext 3 d) % 32).toNat = (base + if 4 ≤ d then 24 + d else d) % 32 := by
  unfold sext
  split_ifs <;> omega

/-- Base colours in individual mode (44_etc1.md rule R244). -/
theorem etc1Base_individual {v : Nat} (h : bitsOf v 33 1 = 0) (lo : Nat) (second : Bool) :
    etc1Base v lo second = if second then 17 * bitsOf v lo 4 else 17 * bitsOf v (lo + 4) 4 := by
  rw [etc1Base, if_pos h]
  exact mul_ite ..

/-- Base colours in differential mode (44_etc1.md rule R245). -/
theorem etc1Base_differential {v : Nat} (h : bitsOf v 33 1 ≠ 0) (lo : Nat) (second : Bool) :
    etc1Base v lo second =
      if second then
        etc1Expand5 ((bitsOf v (lo + 3) 5 + if 4 ≤ bitsOf v lo 3 then 24 + bitsOf v lo 3 else bitsOf v lo 3) % 32)
      else etc1Expand5 (bitsOf v (lo + 3) 5) := by
  simp only [etc1Base, if_neg h, add_sext3_mod32 _ (bitsOf_lt v lo 3)]

/-! ## Halves, offsets and the clamp -/

theorem etc1SecondHalf_iff (v x y : Nat) :
    etc1SecondHalf v x y = true ↔ if bitsOf v 32 1 = 1 then 2 ≤ y else 2 ≤ x := by
  unfold etc1SecondHalf
  split <;> exact decide_eq_true_iff

/-- A row of the default tables holds two sizes, then the same two with the sign changed (44_etc1.md rule R246). -/
theorem stdEtc1Mod_getD : ∀ t < 8, ∀ k < 4,
    let small : Int := [2, 5, 9, 13, 18, 24, 33, 47].getD t 0
    let large : Int := [8, 17, 29, 42, 60, 80, 106, 183].getD t 0
    (stdEtc1Mod.getD t []).getD k 0 = [small, large, -small, -large].getD k 0 := by decide

theorem etc1Mod_default {c : Config} (hc : c.tables = none) : etc1Mod c = stdEtc1Mod := by rw [etc1Mod, hc]; rfl

theorem clampByte_eq (v : Int) : clampByte v = BitVec.ofNat 8 (max 0 (min 255 v)).toNat := by
  unfold clampByte
  split
  · rw [max_eq_left (by omega)]; rfl
  split
  · rw [min_eq_left (by omega)]; rfl
  · rw [min_eq_right (by omega), max_eq_right (by omega)]

/-- Settles O42: a texel of the tile is a pixel of its sub-block, whose parts are those of the rules. -/
theorem etc1TexelsFollowTheRules : Obligations.Etc1TexelsFollowTheRules := by
  intro c c0 c1 c2 c3 a0 a1 a2 a3 h0 h1 h2 h3 g0 g1 g2 g3 x y hx hy colors v field p half2 five delta base
    table small large offset channel
  have texel : colors[8 * y + x]? = some (etc1Pixel c v none (x % 4) (y % 4)) :=
    etc1_getElem? h0 h1 h2 h3 hx hy c
  refine ⟨fun hc => ?rules, _, texel, rfl, etc1a4_getElem? h0 h1 h2 h3 hx hy c g0 g1 g2 g3⟩
  have half : etc1SecondHalf v (x % 4) (y % 4) = true ↔ half2 := etc1SecondHalf_iff v _ _
  have baseColour : ∀ lo, etc1Base v lo (etc1SecondHalf v (x % 4) (y % 4)) = base lo := by
    intro lo
    by_cases individual : field 33 1 = 0
    · exact (etc1Base_individual individual lo _).trans ((if_congr half rfl rfl).trans (if_pos individual).symm)
    · exact (etc1Base_differential individual lo _).trans ((if_congr half rfl rfl).trans (if_neg individual).symm)
  have tableOfHalf : (if etc1SecondHalf v (x % 4) (y % 4) then bitsOf v 34 3 else bitsOf v 37 3) = table :=
    if_congr half rfl rfl
  have ht : table < 8 := by
    rw [← tableOfHalf]
    split <;> exact bitsOf_lt v _ 3
  have hk : 2 * field (16 + p) 1 + field p 1 < 4 := by
    have high := bitsOf_lt v (16 + p) 1
    have low := bitsOf_lt v p 1
    change 2 * bitsOf v (16 + p) 1 + bitsOf v p 1 < 4
    omega
  have offsetOfTexel : etc1Offset c v (x % 4) (y % 4) = offset := by
    simp only [etc1Offset, tableOfHalf, etc1Mod_default hc]
    exact stdEtc1Mod_getD table ht _ hk
  rw [texel]
  simp only [etc1Pixel, baseColour, offsetOfTexel, clampByte_eq]
  rfl

end Sys2Proof.Machine
end

section
/-! SUPPORT. The BC7 codec: the fields of a block read one after another, the subsets and their anchors, and the texels
(45_bc7.md rules R266 to R285). -/

namespace Sys2Proof.Machine

/-! ## Fields read one after another -/

@[simp] theorem readFields_length (v pos : Nat) (ws : List Nat) : (readFields v pos ws).length = ws.length := by
  induction ws generalizing pos with
  | nil => rfl
  | cons n ws ih => simp [readFields, ih]

theorem readFields_append (v pos : Nat) (ws ws' : List Nat) :
    readFields v pos (ws ++ ws') = readFields v pos ws ++ readFields v (pos + ws.sum) ws' := by
  induction ws generalizing pos with
  | nil => rfl
  | cons n ws ih => simp [readFields, ih, Nat.add_assoc]

/-- A field of a group of fields, whatever stands before the group and after it. -/
theorem readFields_getD_group {v pos : Nat} {before group ws : List Nat} (h : before ++ group <+: ws) {i : Nat}
    (hi : i < group.length) :
    (readFields v pos ws).getD (before.length + i) 0 = (readFields v (pos + before.sum) group).getD i 0 := by
  obtain ⟨after, rfl⟩ := h
  rw [readFields_append, readFields_append, List.getD_append _ _ _ _ (by simpa using hi),
    List.getD_append_right _ _ _ _ (by simp), readFields_length, Nat.add_sub_cancel_left]

theorem readFields_replicate_getD (v pos w : Nat) {n i : Nat} (hi : i < n) :
    (readFields v pos (List.replicate n w)).getD i 0 = bitsOf v (pos + i * w) w := by
  induction n generalizing pos i with
  | zero => exact absurd hi i.not_lt_zero
  | succ n ih =>
    cases i with
    | zero => simp [List.replicate_succ, readFields]
    | succ i =>
      rw [List.replicate_succ, readFields, List.getD_cons_succ, ih _ (Nat.lt_of_succ_lt_succ hi)]
      congr 1
      ring

/-! ## The default mode table -/

theorem mem_stdBc7Modes {c : Config} (hc : c.tables = none) {k : Bc7Mode} (hk : k ∈ bc7Modes c) : k ∈ stdBc7Modes := by
  simpa [bc7Modes, hc] using hk

/-- What the proofs use of a row of the mode table: the number of subsets, the parity bits, the index widths, and that
only a mode of one subset has secondary indices (45_bc7.md rule R267). -/
structure Bc7ModeShape (k : Bc7Mode) : Prop where
  ns_cases : k.ns = 1 ∨ k.ns = 2 ∨ k.ns = 3
  pb_le : k.pb ≤ 6
  parity_cases : k.epb = 0 ∧ k.spb = 0 ∨ k.epb = 0 ∧ k.spb = 1 ∨ k.epb = 1 ∧ k.spb = 0
  ib_cases : k.ib = 2 ∨ k.ib = 3 ∨ k.ib = 4
  ib2_cases : k.ib2 = 0 ∨ k.ns = 1 ∧ (k.ib2 = 2 ∨ k.ib2 = 3)

theorem bc7ModeShape_default {c : Config} (hc : c.tables = none) {k : Bc7Mode} (hk : k ∈ bc7Modes c) :
    Bc7ModeShape k := by
  have rows : ∀ k ∈ stdBc7Modes, (k.ns = 1 ∨ k.ns = 2 ∨ k.ns = 3) ∧ k.pb ≤ 6 ∧
      (k.epb = 0 ∧ k.spb = 0 ∨ k.epb = 0 ∧ k.spb = 1 ∨ k.epb = 1 ∧ k.spb = 0) ∧
      (k.ib = 2 ∨ k.ib = 3 ∨ k.ib = 4) ∧ (k.ib2 = 0 ∨ k.ns = 1 ∧ (k.ib2 = 2 ∨ k.ib2 = 3)) := by decide
  obtain ⟨hns, hpb, hparity, hib, hib2⟩ := rows k (mem_stdBc7Modes hc hk)
  exact ⟨hns, hpb, hparity, hib, hib2⟩

@[simp] theorem indexWidths_length (c : Config) (ib ns part : Nat) : (indexWidths c ib ns part).length = 16 := by
  simp [indexWidths]

/-- Settles O44: the sum is checked row by row. -/
theorem bc7FieldsFillTheBlock : Obligations.Bc7FieldsFillTheBlock := by
  intro c m k hc hk
  have rows : ∀ p ∈ stdBc7Modes.zipIdx,
      (p.2 + 1) + p.1.pb + p.1.rb + p.1.isb + 3 * (2 * p.1.ns * p.1.cb) + 2 * p.1.ns * p.1.ab +
        (2 * p.1.ns * p.1.epb + p.1.ns * p.1.spb) + (16 * p.1.ib - p.1.ns) +
        (if 0 < p.1.ib2 then 16 * p.1.ib2 - 1 else 0) = 128 := by decide
  have row : stdBc7Modes[m]? = some k := by simpa [bc7Modes, hc] using hk
  exact ⟨rows (k, m) (List.mk_mem_zipIdx_iff_getElem?.mpr row), fun part => indexWidths_length c k.ib k.ns part⟩

/-! ## Subsets and anchors -/

theorem bc7Subset_one (c : Config) (part t : Nat) : bc7Subset c 1 part t = 0 := rfl

theorem bc7Subset_two {c : Config} (hc : c.tables = none) (part t : Nat) :
    bc7Subset c 2 part t = digitOf (stdBc7P2Rows.getD part 0) t := by
  simp [bc7Subset, bc7P2, hc]

theorem bc7Subset_three {c : Config} (hc : c.tables = none) (part t : Nat) :
    bc7Subset c 3 part t = digitOf (stdBc7P3Rows.getD part 0) t := by
  simp [bc7Subset, bc7P3, hc]

theorem bc7Anchor_zero (c : Config) (ns part : Nat) : bc7Anchor c ns part 0 = 0 := rfl

theorem bc7Anchor_two {c : Config} (hc : c.tables = none) (part : Nat) :
    bc7Anchor c 2 part 1 = stdBc7A2.getD part 0 := by
  simp [bc7Anchor, bc7A2, hc]

theorem bc7Anchor_three_one {c : Config} (hc : c.tables = none) (part : Nat) :
    bc7Anchor c 3 part 1 = stdBc7A3A.getD part 0 := by
  simp [bc7Anchor, bc7A3A, hc]

theorem bc7Anchor_three_two {c : Config} (hc : c.tables = none) (part : Nat) :
    bc7Anchor c 3 part 2 = stdBc7A3B.getD part 0 := by
  simp [bc7Anchor, bc7A3B, hc]

/-- Every texel lies in a subset of its mode (45_bc7.md rules R272 to R274). -/
theorem bc7Subset_lt {c : Config} (hc : c.tables = none) {ns part t : Nat} (hns : ns = 1 ∨ ns = 2 ∨ ns = 3)
    (hpart : part < 64) (ht : t < 16) : bc7Subset c ns part t < ns := by
  rcases hns with rfl | rfl | rfl
  · exact Nat.one_pos
  · have digits : ∀ part < 64, ∀ t < 16, digitOf (stdBc7P2Rows.getD part 0) t < 2 := by decide +kernel
    rw [bc7Subset_two hc]
    exact digits part hpart t ht
  · have digits : ∀ part < 64, ∀ t < 16, digitOf (stdBc7P3Rows.getD part 0) t < 3 := by decide +kernel
    rw [bc7Subset_three hc]
    exact digits part hpart t ht

/-- The anchors of the default tables are texels of their subsets (45_bc7.md rules R275, R276). -/
theorem bc7Anchor_mem {c : Config} (hc : c.tables = none) {ns part sub : Nat} (hns : ns = 1 ∨ ns = 2 ∨ ns = 3)
    (hpart : part < 64) (hsub : sub < ns) :
    bc7Anchor c ns part sub < 16 ∧ bc7Subset c ns part (bc7Anchor c ns part sub) = sub := by
  rcases hns with rfl | rfl | rfl
  · obtain rfl : sub = 0 := Nat.lt_one_iff.mp hsub
    rw [bc7Anchor_zero]
    exact ⟨by decide, rfl⟩
  · have anchors : ∀ part < 64, digitOf (stdBc7P2Rows.getD part 0) 0 = 0 ∧ stdBc7A2.getD part 0 < 16 ∧
        digitOf (stdBc7P2Rows.getD part 0) (stdBc7A2.getD part 0) = 1 := by decide +kernel
    obtain ⟨origin, below, digit⟩ := anchors part hpart
    rw [bc7Subset_two hc]
    interval_cases sub
    · rw [bc7Anchor_zero]; exact ⟨by decide, origin⟩
    · rw [bc7Anchor_two hc]; exact ⟨below, digit⟩
  · have anchors : ∀ part < 64, digitOf (stdBc7P3Rows.getD part 0) 0 = 0 ∧
        (stdBc7A3A.getD part 0 < 16 ∧ digitOf (stdBc7P3Rows.getD part 0) (stdBc7A3A.getD part 0) = 1) ∧
        stdBc7A3B.getD part 0 < 16 ∧ digitOf (stdBc7P3Rows.getD part 0) (stdBc7A3B.getD part 0) = 2 := by
      decide +kernel
    obtain ⟨origin, first, second⟩ := anchors part hpart
    rw [bc7Subset_three hc]
    interval_cases sub
    · rw [bc7Anchor_zero]; exact ⟨by decide, origin⟩
    · rw [bc7Anchor_three_one hc]; exact first
    · rw [bc7Anchor_three_two hc]; exact second

theorem indexWidths_getElem? (c : Config) (ib ns part : Nat) {t : Nat} (ht : t < 16) :
    (indexWidths c ib ns part)[t]? =
      some (if t = bc7Anchor c ns part (bc7Subset c ns part t) then ib - 1 else ib) := by
  simp [indexWidths, ht, bc7IsAnchor]

/-- Settles O43: a texel is an anchor exactly when it is the anchor of its own subset. -/
theorem bc7AnchorsHaveOneBitFewer : Obligations.Bc7AnchorsHaveOneBitFewer := by
  intro c hc k hk part hpart sub hsub anchor
  have shape := bc7ModeShape_default hc hk
  have hpart64 : part < 64 := hpart.trans_le (Nat.pow_le_pow_right (by decide) shape.pb_le)
  obtain ⟨below, inSubset⟩ := bc7Anchor_mem hc shape.ns_cases hpart64 hsub
  refine ⟨below, inSubset, ?anchorWidth, fun t ht tInSubset other => ?otherWidth⟩
  case anchorWidth => rw [indexWidths_getElem? c _ _ _ below, inSubset, if_pos rfl]
  case otherWidth => rw [indexWidths_getElem? c _ _ _ ht, tInSubset, if_neg other]

/-! ## The fields of a block -/

/-- The widths of the fields after the mode bits, in the groups and the order of 45_bc7.md rule R266: partition, rotation
and index selection, colours, alphas, parity bits, primary and secondary indices. -/
def bc7Groups (c : Config) (k : Bc7Mode) (part : Nat) : List (List Nat) :=
  [[k.pb, k.rb, k.isb], List.replicate (3 * (2 * k.ns)) k.cb, List.replicate (2 * k.ns) k.ab,
   List.replicate (2 * k.ns * k.epb + k.ns * k.spb) 1, indexWidths c k.ib k.ns part, secondaryWidths k.ib2]

section
variable (c : Config) (k : Bc7Mode) (m v : Nat)

/-- Field `n` of a block of mode `m`, counted from the partition. -/
def bc7Field (n : Nat) : Nat :=
  (readFields v (m + 1) (bc7Groups c k (bitsOf v (m + 1) k.pb)).flatten).getD n 0

theorem bc7Field_rotation : bc7Field c k m v 1 = bitsOf v (m + 1 + k.pb) k.rb := rfl

theorem bc7Field_indexSelection : bc7Field c k m v 2 = bitsOf v (m + 1 + k.pb + k.rb) k.isb := rfl

variable {c k m v} in
/-- A field of a group of rule R266, read from where the group starts. -/
theorem bc7Field_group (g : Nat) {group : List Nat} {n i start : Nat}
    (hg : (bc7Groups c k (bitsOf v (m + 1) k.pb))[g]? = some group) (hi : i < group.length)
    (hn : n = ((bc7Groups c k (bitsOf v (m + 1) k.pb)).take g).flatten.length + i)
    (hstart : start = m + 1 + ((bc7Groups c k (bitsOf v (m + 1) k.pb)).take g).flatten.sum) :
    bc7Field c k m v n = (readFields v start group).getD i 0 := by
  rw [bc7Field, hn, hstart]
  generalize bc7Groups c k (bitsOf v (m + 1) k.pb) = groups at hg
  refine readFields_getD_group ⟨(groups.drop (g + 1)).flatten, ?_⟩ hi
  have upTo : groups.take (g + 1) = groups.take g ++ [group] := by rw [List.take_add_one, hg]; rfl
  calc _ = (groups.take (g + 1)).flatten ++ (groups.drop (g + 1)).flatten := by rw [upTo, List.flatten_concat]
    _ = groups.flatten := by rw [← List.flatten_append, List.take_append_drop]

theorem bc7Field_color {ch e : Nat} (hch : ch < 3) (he : e < 2 * k.ns) :
    bc7Field c k m v (3 + 2 * k.ns * ch + e) = bc7Raw k m v ch e := by
  have place : 2 * k.ns * ch + e < 3 * (2 * k.ns) := by interval_cases ch <;> omega
  rw [bc7Raw, if_pos hch, ← readFields_replicate_getD v _ _ place]
  refine bc7Field_group 1 rfl (by simpa using place) (Nat.add_assoc ..) ?_
  simp [bc7Groups, bc7EndpointPos, Nat.add_assoc]

theorem bc7Field_alpha {e : Nat} (he : e < 2 * k.ns) : bc7Field c k m v (3 + 2 * k.ns * 3 + e) = bc7Raw k m v 3 e := by
  rw [bc7Raw, if_neg (by decide), ← readFields_replicate_getD v _ _ he]
  refine bc7Field_group 2 rfl (by simpa using he) ?_ ?_
  · simp [bc7Groups]; omega
  · simp [bc7Groups, bc7EndpointPos]; ring

theorem bc7Field_raw {ch e : Nat} (hch : ch ≤ 3) (he : e < 2 * k.ns) :
    bc7Field c k m v (3 + 2 * k.ns * ch + e) = bc7Raw k m v ch e := by
  obtain below | rfl := hch.lt_or_eq
  · exact bc7Field_color c k m v below he
  · exact bc7Field_alpha c k m v he

theorem bc7Field_parity {i : Nat} (hi : i < 2 * k.ns * k.epb + k.ns * k.spb) :
    bc7Field c k m v (3 + 4 * (2 * k.ns) + i) = bitsOf v (bc7ParityPos k m + i) 1 := by
  have read := readFields_replicate_getD v (bc7ParityPos k m) 1 hi
  rw [Nat.mul_one] at read
  rw [← read]
  refine bc7Field_group 3 rfl (by simpa using hi) ?_ ?_
  · simp [bc7Groups]; omega
  · simp [bc7Groups, bc7ParityPos, bc7EndpointPos]; ring

theorem bc7Field_index {t : Nat} (ht : t < 16) :
    bc7Field c k m v (3 + 4 * (2 * k.ns) + (2 * k.ns * k.epb + k.ns * k.spb) + t) =
      (readFields v (bc7IndexPos k m) (indexWidths c k.ib k.ns (bitsOf v (m + 1) k.pb))).getD t 0 := by
  refine bc7Field_group 4 rfl (by simpa using ht) ?_ ?_
  · simp [bc7Groups]; omega
  · simp [bc7Groups, bc7IndexPos, bc7ParityPos, bc7EndpointPos]; ring

/-- The secondary indices of a mode of one subset, whose primary indices have one bit fewer at texel 0 alone
(45_bc7.md rules R266, R280). -/
theorem bc7Field_secondary (hns : k.ns = 1) (hib : 0 < k.ib) {t : Nat} (ht : t < 16) :
    bc7Field c k m v (3 + 4 * (2 * k.ns) + (2 * k.ns * k.epb + k.ns * k.spb) + 16 + t) =
      (readFields v (bc7Index2Pos k m) (secondaryWidths k.ib2)).getD t 0 := by
  have primaryBits : (indexWidths c k.ib k.ns (bitsOf v (m + 1) k.pb)).sum = 16 * k.ib - k.ns := by
    have widths : indexWidths c k.ib k.ns (bitsOf v (m + 1) k.pb) = (k.ib - 1) :: List.replicate 15 k.ib := by
      rw [hns]; rfl
    rw [widths, List.sum_cons, List.sum_replicate, smul_eq_mul]
    omega
  refine bc7Field_group 5 rfl (by simpa [secondaryWidths] using ht) ?_ ?_
  · simp [bc7Groups]; omega
  · simp [bc7Groups, bc7Index2Pos, bc7IndexPos, bc7ParityPos, bc7EndpointPos, primaryBits]; ring

end

/-! ## The mode -/

theorem bitsOf_one_beq (v m : Nat) : (bitsOf v m 1 == 1) = v.testBit m := by
  rw [Nat.testBit_eq_decide_div_mod_eq]; rfl

/-- The mode is the lowest set bit of the first byte (45_bc7.md rule R268). -/
theorem bc7ModeOf_eq_some {v m : Nat} (hm : m < 8) (h : v % 2 ^ (m + 1) = 2 ^ m) : bc7ModeOf v = some m := by
  have bit : ∀ j ≤ m, v.testBit j = decide (m = j) := by
    intro j hj
    rw [← Nat.testBit_two_pow, ← h, Nat.testBit_mod_two_pow, decide_eq_true (Nat.lt_succ_of_le hj), Bool.true_and]
  simp only [bc7ModeOf, bitsOf_one_beq]
  refine List.find?_range_eq_some.mpr ⟨?_, List.mem_range.mpr hm, fun j hj => ?_⟩
  · simp [bit m le_rfl]
  · simp [bit j hj.le, hj.ne']

theorem bc7ModeOf_eq_none {v : Nat} (h : v % 256 = 0) : bc7ModeOf v = none := by
  simp only [bc7ModeOf, bitsOf_one_beq]
  refine List.find?_range_eq_none.mpr fun j hj => ?_
  have bit : (v % 2 ^ 8).testBit j = v.testBit j := by
    rw [Nat.testBit_mod_two_pow, decide_eq_true hj, Bool.true_and]
  have firstByte : v % 2 ^ 8 = 0 := h
  rw [← bit, firstByte, Nat.zero_testBit]
  rfl

/-! ## Endpoints, weights and texels -/

theorem bc7W_default {c : Config} (hc : c.tables = none) {n : Nat} (hn : n = 2 ∨ n = 3 ∨ n = 4) :
    bc7W c n =
      if n = 2 then [0, 21, 43, 64] else if n = 3 then [0, 9, 18, 27, 37, 46, 55, 64]
      else [0, 4, 9, 13, 17, 21, 26, 30, 34, 38, 43, 47, 51, 55, 60, 64] := by
  rw [bc7W, hc]
  rcases hn with rfl | rfl | rfl <;> rfl

/-- The parity bit of endpoint `e` is read among the mode's parity bits (45_bc7.md rule R278). -/
theorem bc7Parity_eq_field (c : Config) {k : Bc7Mode} (shape : Bc7ModeShape k) (m v : Nat) {e : Nat} (he : e < 2 * k.ns)
    (hparity : 2 * k.ns * k.epb + k.ns * k.spb ≠ 0) :
    bc7Parity k m v e = bc7Field c k m v (3 + 4 * (2 * k.ns) + if k.epb = 1 then e else e / 2) := by
  unfold bc7Parity
  rcases shape.parity_cases with ⟨own, shared⟩ | ⟨own, shared⟩ | ⟨own, shared⟩
  · simp [own, shared] at hparity
  · rw [if_neg (by omega), if_neg (by omega), bc7Field_parity c k m v (by rw [own, shared]; omega)]
  · rw [if_pos own, if_pos own, bc7Field_parity c k m v (by rw [own, shared]; omega)]

/-- Channel `ch` of endpoint `e` from the fields of the block (45_bc7.md rules R270, R278, R279). -/
theorem bc7Endpoint_eq_field (c : Config) {k : Bc7Mode} (shape : Bc7ModeShape k) (m v : Nat) {ch e : Nat} (hch : ch ≤ 3)
    (he : e < 2 * k.ns) (hchannel : ¬ (ch = 3 ∧ k.ab = 0)) :
    let field := bc7Field c k m v
    let parity := 2 * k.ns * k.epb + k.ns * k.spb
    let raw := field (3 + 2 * k.ns * ch + e)
    bc7Endpoint k m v ch e =
      expandTo8 (if parity = 0 then raw else 2 * raw + field (3 + 4 * (2 * k.ns) + if k.epb = 1 then e else e / 2))
        ((if ch = 3 then k.ab else k.cb) + if parity = 0 then 0 else 1) := by
  intro field parity raw
  have hraw : raw = bc7Raw k m v ch e := bc7Field_raw c k m v hch he
  have hbits : (if ch < 3 then k.cb else k.ab) = if ch = 3 then k.ab else k.cb := by interval_cases ch <;> rfl
  have hwith : (k.epb = 1 ∨ k.spb = 1) ↔ parity ≠ 0 := by
    have hns : k.ns ≠ 0 := by have := shape.ns_cases; omega
    rcases shape.parity_cases with ⟨own, shared⟩ | ⟨own, shared⟩ | ⟨own, shared⟩ <;> simp [parity, own, shared, hns]
  simp only [bc7Endpoint, if_neg hchannel, hbits, hwith, ite_not]
  by_cases absent : parity = 0
  · rw [if_pos absent, if_pos absent, if_pos absent, hraw, Nat.add_zero]
  · rw [if_neg absent, if_neg absent, if_neg absent, hraw, bc7Parity_eq_field c shape m v he absent]

/-- The weight of texel `t`, from its secondary index where there is one and the index-selection bit is `selected`: 1 for
the colours, 0 for alpha (45_bc7.md rule R283). -/
def bc7Weight (c : Config) (k : Bc7Mode) (m v t selected : Nat) : Nat :=
  let index := 3 + 4 * (2 * k.ns) + (2 * k.ns * k.epb + k.ns * k.spb)
  if 0 < k.ib2 ∧ bc7Field c k m v 2 = selected then (bc7W c k.ib2).getD (bc7Field c k m v (index + 16 + t)) 0
  else (bc7W c k.ib).getD (bc7Field c k m v (index + t)) 0

theorem bc7Weight_le {c : Config} (hc : c.tables = none) (k : Bc7Mode) (m v t selected : Nat) :
    bc7Weight c k m v t selected ≤ 64 := by
  unfold bc7Weight
  dsimp only
  split <;> exact bc7W_le hc _ _

theorem bc7Weight_eq (c : Config) {k : Bc7Mode} (shape : Bc7ModeShape k) (m v : Nat) {t : Nat} (ht : t < 16)
    (selected : Nat) :
    (if k.ib2 ≠ 0 ∧ bitsOf v (m + 1 + k.pb + k.rb) k.isb = selected then
        (bc7W c k.ib2).getD ((readFields v (bc7Index2Pos k m) (secondaryWidths k.ib2)).getD t 0) 0
      else (bc7W c k.ib).getD
        ((readFields v (bc7IndexPos k m) (indexWidths c k.ib k.ns (bitsOf v (m + 1) k.pb))).getD t 0) 0) =
      bc7Weight c k m v t selected := by
  rw [bc7Weight, bc7Field_index c k m v ht, bc7Field_indexSelection]
  rcases shape.ib2_cases with absent | ⟨hns, hib2⟩
  · rw [if_neg (by simp [absent]), if_neg (by simp [absent])]
  · have hib : 0 < k.ib := by have := shape.ib_cases; omega
    simp only [bc7Field_secondary c k m v hns hib ht, Nat.pos_iff_ne_zero]

/-- A texel is the rotated interpolation between the two endpoints of its subset (45_bc7.md rules R282 to R285). -/
theorem bc7_getElem? {c : Config} {v m t : Nat} {k : Bc7Mode} (shape : Bc7ModeShape k) (hm : bc7ModeOf v = some m)
    (hk : (bc7Modes c)[m]? = some k) (ht : t < 16) :
    let sub := bc7Subset c k.ns (bitsOf v (m + 1) k.pb) t
    let chan := fun ch selected =>
      bc7Interp (bc7Endpoint k m v ch (2 * sub)) (bc7Endpoint k m v ch (2 * sub + 1)) (bc7Weight c k m v t selected)
    (bc7 c v)[t]? =
      some (bc7Rotate (bc7Field c k m v 1) (chan 0 1) (chan 1 1) (chan 2 1) (if k.ab = 0 then 255 else chan 3 0)) := by
  intro sub chan
  simp only [bc7, hm, hk, bc7Tile, List.getElem?_map, List.getElem?_range ht, Option.map_some, bc7Texel,
    bc7Weight_eq c shape m v ht]
  rfl

/-- Settles O45: each part of a texel is read from the fields the rules name. -/
theorem bc7TexelsFollowTheRules : Obligations.Bc7TexelsFollowTheRules := by
  refine ⟨fun c v h => by rw [bc7, bc7ModeOf_eq_none h]; rfl, ?_⟩
  intro c v m t k hc hm hv hk ht part ends parity secondary fields field width value endpoint weight first second
    colorWeight alphaWeight sub interp r g b a
  have hmem : k ∈ bc7Modes c := List.mem_of_getElem? hk
  have shape := bc7ModeShape_default hc hmem
  have hpart : part < 64 := (bitsOf_lt v (m + 1) k.pb).trans_le (Nat.pow_le_pow_right (by decide) shape.pb_le)
  have hfield : bc7Field c k m v = field := by
    have hsecondary : secondaryWidths k.ib2 = secondary :=
      List.map_congr_left fun n _ => by split_ifs <;> simp [*]
    funext n
    simp only [bc7Field, bc7Groups, hsecondary, List.flatten_cons, List.flatten_nil, List.append_nil, field, fields,
      List.append_assoc]
    rfl
  have hsub : bc7Subset c k.ns (bitsOf v (m + 1) k.pb) t = sub := by
    change bc7Subset c k.ns part t = sub
    rcases shape.ns_cases with h | h | h <;> simp [bc7Subset, sub, h]
  have hsubLt : sub < k.ns := hsub ▸ bc7Subset_lt hc shape.ns_cases hpart ht
  have hweight : ∀ selected,
      bc7Weight c k m v t selected = if 0 < k.ib2 ∧ field 2 = selected then second else first := by
    intro selected
    rw [bc7Weight, hfield, bc7W_default hc shape.ib_cases]
    refine if_ctx_congr Iff.rfl (fun ⟨present, _⟩ => ?_) fun _ => rfl
    rw [bc7W_default hc (by have := shape.ib2_cases; omega)]
  have hchannel : ∀ ch ≤ 3, ¬ (ch = 3 ∧ k.ab = 0) → ∀ w ≤ 64,
      bc7Interp (bc7Endpoint k m v ch (2 * sub)) (bc7Endpoint k m v ch (2 * sub + 1)) w = interp ch w := by
    intro ch hch present w hw
    have hendpoint : ∀ e < 2 * k.ns, bc7Endpoint k m v ch e = endpoint ch e := by
      intro e he
      rw [bc7Endpoint_eq_field c shape m v hch he present, hfield]
      rfl
    rw [bc7Interp_eq (bc7Endpoint_le hc hmem ..) (bc7Endpoint_le hc hmem ..) hw, hendpoint _ (by omega),
      hendpoint _ (by omega)]
  have hcolor : ∀ ch < 3, bc7Interp (bc7Endpoint k m v ch (2 * sub)) (bc7Endpoint k m v ch (2 * sub + 1))
      (bc7Weight c k m v t 1) = interp ch colorWeight := by
    intro ch hch
    rw [hchannel ch hch.le (by omega) _ (bc7Weight_le hc ..), hweight]
  have halpha : (if k.ab = 0 then 255 else bc7Interp (bc7Endpoint k m v 3 (2 * sub)) (bc7Endpoint k m v 3 (2 * sub + 1))
      (bc7Weight c k m v t 0)) = a := by
    refine if_ctx_congr Iff.rfl (fun _ => rfl) fun present => ?_
    rw [hchannel 3 le_rfl (by simpa using present) _ (bc7Weight_le hc ..), hweight]
  have texel := bc7_getElem? shape (bc7ModeOf_eq_some hm hv) hk ht
  simp only [hsub, hfield, hcolor 0 (by decide), hcolor 1 (by decide), hcolor 2 (by decide), halpha] at texel
  exact texel

end Sys2Proof.Machine
end

section
/-! SUPPORT. The BPTC-Float codec: the layouts of its modes, the ranges of its half-floats, and the texels
(46_bptc_float.md rules R302 to R318). -/

namespace Sys2Proof.Machine

/-! ## The default mode table -/

theorem mem_stdBptcfModes {c : Config} (hc : c.tables = none) {k : BptcfMode} (hk : k ∈ bptcfModes c) :
    k ∈ stdBptcfModes := by
  simpa [bptcfModes, hc] using hk

/-- What the proofs use of a row of the mode table: the number of regions, the precision and the delta widths
(46_bptc_float.md rule R302). -/
structure BptcfModeShape (k : BptcfMode) : Prop where
  regions_cases : k.regions = 1 ∨ k.regions = 2
  epb_pos : 1 ≤ k.epb
  epb_le : k.epb ≤ 16
  deltaBits_le : ∀ ch, deltaBits k ch ≤ k.epb

theorem bptcfModeShape_default {c : Config} (hc : c.tables = none) {k : BptcfMode} (hk : k ∈ bptcfModes c) :
    BptcfModeShape k := by
  have rows : ∀ k ∈ stdBptcfModes, (k.regions = 1 ∨ k.regions = 2) ∧ (1 ≤ k.epb ∧ k.epb ≤ 16) ∧
      k.dR ≤ k.epb ∧ k.dG ≤ k.epb ∧ k.dB ≤ k.epb := by decide
  obtain ⟨hregions, ⟨hpos, hle⟩, hR, hG, hB⟩ := rows k (mem_stdBptcfModes hc hk)
  refine ⟨hregions, hpos, hle, fun ch => ?_⟩
  unfold deltaBits
  split_ifs <;> assumption

/-- Configurations without tables have the same index widths (45_bc7.md rules R275, R280). -/
theorem indexWidths_eq_default {c : Config} (hc : c.tables = none) (ib ns part : Nat) :
    indexWidths c ib ns part = indexWidths Config.default ib ns part := by
  have hd : Config.default.tables = none := rfl
  simp only [indexWidths, bc7IsAnchor, bc7Anchor, bc7Subset, bc7P2, bc7P3, bc7A2, bc7A3A, bc7A3B, hc, hd]

/-- Settles O48: the layouts are checked mode by mode. -/
theorem bptcfLayoutsCoverTheBlock : Obligations.BptcfLayoutsCoverTheBlock := by
  intro c hc k hk width modeBits last
  have rows : ∀ k ∈ stdBptcfModes,
      let width := fun it : LayoutItem => if it.i ≤ it.j then it.j - it.i + 1 else it.i - it.j + 1
      let modeBits := if k.value < 2 then 2 else 5
      let last := if k.regions = 2 then 77 else 65
      (∀ b < last, modeBits ≤ b → (k.layout.filter fun it => it.pos ≤ b && b < it.pos + width it).length = 1) ∧
      (k.layout.map width).sum + modeBits = last ∧
      last + (if k.regions = 2 then 5 else 0) +
        (indexWidths Config.default (bptcfIndexBits k) k.regions 0).sum = 128 := by decide +kernel
  obtain ⟨once, total, block⟩ := rows k (mem_stdBptcfModes hc hk)
  refine ⟨fun b fromMode below => once b below fromMode, total, ?_⟩
  rw [indexWidths_eq_default hc]
  exact block

/-! ## The ranges of the half-floats -/

/-- Below 16 bits of precision the unquantised value stays above the most negative number (46_bptc_float.md rule R310). -/
theorem le_unqS_of_lt {epb : Nat} (h : epb < 16) (x : Int) : -32767 ≤ unqS epb x := by
  have magnitude : (if x.natAbs = 0 then 0 else if 2 ^ (epb - 1) - 1 ≤ x.natAbs then 0x7FFF
      else (x.natAbs * 32768 + 0x4000) / 2 ^ (epb - 1)) ≤ 0x7FFF := by
    split_ifs with zero top
    · omega
    · omega
    · have hle : 2 ^ (epb - 1) ≤ 2 ^ 15 := Nat.pow_le_pow_right (by omega) (by omega)
      rw [← Nat.lt_succ_iff, Nat.div_lt_iff_lt_mul (Nat.two_pow_pos _)]
      omega
  rw [unqS, if_neg (by omega)]
  dsimp only
  split <;> omega

/-- An interpolated value lies between any bounds of its channel's endpoints (46_bptc_float.md rule R312). -/
theorem bptcfValue_range {c : Config} (hc : c.tables = none) {signed : Bool} {k : BptcfMode} {v ch : Nat} {lo hi : Int}
    (h : ∀ ep, lo ≤ unq signed k.epb (endpointValue signed k v ch ep) ∧
      unq signed k.epb (endpointValue signed k v ch ep) ≤ hi) (idx : List Nat) (t : Nat) :
    lo ≤ bptcfValue c signed k v idx t ch ∧ bptcfValue c signed k v idx t ch ≤ hi :=
  halfInterp_range (bc7W_le hc _ _) (h _) (h _)

section
variable {c : Config} (hc : c.tables = none) {k : BptcfMode} (hk : k ∈ bptcfModes c) (v : Nat) (idx : List Nat) (t : Nat)
include hc hk

theorem bptcfValue_unsigned {ch : Nat} (hch : ch < 3) :
    0 ≤ bptcfValue c false k v idx t ch ∧ bptcfValue c false k v idx t ch ≤ 65535 :=
  bptcfValue_range hc
    (fun ep => unqU_range (bptcfModeShape_default hc hk).epb_le (endpointBits_lt hc hk hch v ep)) idx t

theorem bptcfValue_signed (ch : Nat) :
    -32768 ≤ bptcfValue c true k v idx t ch ∧ bptcfValue c true k v idx t ch ≤ 32767 := by
  obtain ⟨-, hpos, hle, -⟩ := bptcfModeShape_default hc hk
  exact bptcfValue_range hc (fun ep => unqS_range hpos hle (sext_range hpos).1 (sext_range hpos).2) idx t

/-- Only a mode with 16-bit endpoints reaches the most negative value (46_bptc_float.md rule R317). -/
theorem epb_eq_of_bptcfValue {ch : Nat} (h : bptcfValue c true k v idx t ch = -32768) : k.epb = 16 := by
  obtain ⟨-, hpos, hle, -⟩ := bptcfModeShape_default hc hk
  by_contra other
  have hlt : k.epb < 16 := by omega
  have above := bptcfValue_range (signed := true) hc (fun ep => ⟨le_unqS_of_lt hlt (endpointValue true k v ch ep),
    (unqS_range hpos hle (sext_range hpos).1 (sext_range hpos).2).2⟩) idx t
  omega

end

/-- The signed half-float: the sign bit above the magnitude, and no sign without a magnitude (46_bptc_float.md rule
R313). -/
theorem halfOf_signed {x : Int} (h : -32768 ≤ x) :
    halfOf true x =
      if 0 ≤ x then (x * 31 / 32).toNat else if -x * 31 / 32 = 0 then 0 else 32768 + (-x * 31 / 32).toNat := by
  have hor : 0x8000 ||| (-x * 31 / 32).toNat = 32768 + (-x * 31 / 32).toNat :=
    (Nat.two_pow_add_eq_or_of_lt (i := 15) (by omega) 1).symm
  simp only [halfOf, if_true, hor]
  split_ifs <;> omega

/-- A signed half-float is a magnitude of at most 0x7C00, with the sign bit or without it (46_bptc_float.md rule R317). -/
theorem halfOf_signed_magnitude {x : Int} (h0 : -32768 ≤ x) (h1 : x ≤ 32767) :
    ∃ mag ≤ 0x7C00, (mag = 0x7C00 → x = -32768) ∧ (halfOf true x = mag ∨ halfOf true x = 0x8000 + mag) := by
  rw [halfOf_signed h0]
  split_ifs with positive zero
  · exact ⟨(x * 31 / 32).toNat, by omega, by omega, .inl rfl⟩
  · exact ⟨0, by omega, by omega, .inl rfl⟩
  · exact ⟨(-x * 31 / 32).toNat, by omega, by omega, .inr rfl⟩

/-- Settles O47: the bounds of the interpolated value, carried through the half-float. -/
theorem bptcfHalvesStayInRange : Obligations.BptcfHalvesStayInRange := by
  intro c k v idx t ch hc hk hch
  have unsignedHalf : bptcfHalf c false k v idx t ch ≤ 0x7BFF := by
    obtain ⟨h0, h1⟩ := bptcfValue_unsigned hc hk v idx t hch
    change (bptcfValue c false k v idx t ch * 31 / 64).toNat ≤ 0x7BFF
    omega
  obtain ⟨h0, h1⟩ := bptcfValue_signed hc hk v idx t ch
  obtain ⟨mag, hmag, extreme, hhalf⟩ := halfOf_signed_magnitude h0 h1
  change bptcfHalf c true k v idx t ch = mag ∨ bptcfHalf c true k v idx t ch = 0x8000 + mag at hhalf
  have hmod : bptcfHalf c true k v idx t ch % 0x8000 = mag := by omega
  rw [hmod]
  exact ⟨unsignedHalf, by omega, hmag, fun h => epb_eq_of_bptcfValue hc hk v idx t (extreme h)⟩

/-! ## The mode -/

theorem bptcfModeValue_eq (v : Nat) : bptcfModeValue v = if v % 4 < 2 then v % 4 else v % 32 := by
  simp [bptcfModeValue, bitsOf_zero]

theorem bptcfModeOf_default {c : Config} (hc : c.tables = none) (v : Nat) :
    bptcfModeOf c v = stdBptcfModes.find? fun k => k.value == bptcfModeValue v := by
  simp [bptcfModeOf, bptcfModes, hc]

/-- The mode values of the table differ, so a block has the mode whose value its mode bits hold (46_bptc_float.md rule
R302). -/
theorem bptcfModeOf_eq_some {c : Config} (hc : c.tables = none) {k : BptcfMode} (hk : k ∈ bptcfModes c) {v : Nat}
    (hv : k.value = bptcfModeValue v) : bptcfModeOf c v = some k := by
  have rows : ∀ k ∈ stdBptcfModes, (stdBptcfModes.find? fun j => j.value == k.value) = some k := by decide
  rw [bptcfModeOf_default hc, ← hv]
  exact rows k (mem_stdBptcfModes hc hk)

/-- The four reserved mode values (46_bptc_float.md rule R303). -/
theorem bptcfModeOf_eq_none {c : Config} (hc : c.tables = none) {v : Nat}
    (h : v % 32 = 19 ∨ v % 32 = 23 ∨ v % 32 = 27 ∨ v % 32 = 31) : bptcfModeOf c v = none := by
  have rows : ∀ n ∈ [19, 23, 27, 31], (stdBptcfModes.find? fun k => k.value == n) = none := by decide
  have hvalue : bptcfModeValue v = v % 32 := by rw [bptcfModeValue_eq, if_neg (by omega)]
  rw [bptcfModeOf_default hc, hvalue]
  exact rows _ (by simpa using h)

/-! ## Endpoints -/

theorem bitsOf_eq_sum (v lo n : Nat) : bitsOf v lo n = ((List.range n).map fun m => v / 2 ^ (lo + m) % 2 * 2 ^ m).sum := by
  induction n with
  | zero => simp [bitsOf, Nat.mod_one]
  | succ n ih =>
    rw [List.range_succ, List.map_append, List.sum_append, ← ih, bitsOf, Nat.mod_pow_succ, Nat.div_div_eq_div_mul,
      ← Nat.pow_add, Nat.mul_comm (2 ^ n)]
    simp [bitsOf]

/-- The field bits of an item, bit by bit (46_bptc_float.md rule R304). -/
theorem itemBits_eq_sum (v : Nat) (it : LayoutItem) :
    itemBits v it =
      if it.i ≤ it.j then ((List.range (it.j - it.i + 1)).map fun n => v / 2 ^ (it.pos + n) % 2 * 2 ^ (it.i + n)).sum
      else ((List.range (it.i - it.j + 1)).map fun n => v / 2 ^ (it.pos + n) % 2 * 2 ^ (it.i - n)).sum := by
  unfold itemBits
  refine if_ctx_congr Iff.rfl (fun _ => ?_) fun _ => rfl
  rw [bitsOf_eq_sum, ← List.sum_map_mul_right]
  exact congrArg List.sum (List.map_congr_left fun n _ => by rw [Nat.mul_assoc, ← Nat.pow_add, Nat.add_comm n])

/-- A delta fits the delta width of its channel, which is not zero (46_bptc_float.md rules R302, R306). -/
theorem fieldOf_delta_lt {c : Config} (hc : c.tables = none) {k : BptcfMode} (hk : k ∈ bptcfModes c)
    (hdelta : k.delta = true) {ch ep : Nat} (hch : ch < 3) (hep : 0 < ep) (hep4 : ep < 4) (v : Nat) :
    fieldOf k.layout v ch ep < 2 ^ deltaBits k ch := by
  have rows : ∀ k ∈ stdBptcfModes, k.delta = true → ∀ ch < 3, ∀ ep < 4, 0 < ep →
      ((k.layout.filter fun it => it.ch == ch && it.ep == ep).map itemMax).sum < 2 ^ deltaBits k ch := by decide +kernel
  exact (sum_map_le _ fun it _ => itemBits_le v it).trans_lt
    (rows k (mem_stdBptcfModes hc hk) hdelta ch hch ep hep4 hep)

theorem sext_of_lt {n v : Nat} (h : v < 2 ^ n) : sext n v = if 2 ^ (n - 1) ≤ v then (v : Int) - 2 ^ n else (v : Int) := by
  simp only [sext, Nat.mod_eq_of_lt h, ← Nat.not_lt, ite_not]
  push_cast
  rfl

/-- Adding a sign-extended delta modulo the precision, on naturals (46_bptc_float.md rule R307). -/
theorem add_sext_emod {d e : Nat} (hde : d ≤ e) (a : Nat) {b : Nat} (hb : b < 2 ^ d) :
    (((a : Int) + sext d b) % (2 ^ e : Nat)).toNat = (a + b + if 2 ^ (d - 1) ≤ b then 2 ^ e - 2 ^ d else 0) % 2 ^ e := by
  have hle : 2 ^ d ≤ 2 ^ e := Nat.pow_le_pow_right (by decide) hde
  rw [sext_of_lt hb]
  split_ifs
  · have wrapped : (a : Int) + (b - 2 ^ d) + (2 ^ e : Nat) = (a + b + (2 ^ e - 2 ^ d) : Nat) := by
      push_cast [Nat.cast_sub hle]
      ring
    rw [← Int.add_emod_right, wrapped, ← Int.natCast_emod, Int.toNat_natCast]
  · rw [← Int.natCast_add, ← Int.natCast_emod, Int.toNat_natCast, Nat.add_zero]

theorem endpointBits_eq {c : Config} (hc : c.tables = none) {k : BptcfMode} (hk : k ∈ bptcfModes c) {ch ep : Nat}
    (hch : ch < 3) (hep : ep < 4) (v : Nat) :
    endpointBits k v ch ep =
      if ep = 0 ∨ k.delta = false then fieldOf k.layout v ch ep
      else (fieldOf k.layout v ch 0 + fieldOf k.layout v ch ep +
        if 2 ^ (deltaBits k ch - 1) ≤ fieldOf k.layout v ch ep then 2 ^ k.epb - 2 ^ deltaBits k ch else 0) %
          2 ^ k.epb := by
  unfold endpointBits
  refine if_ctx_congr Iff.rfl (fun _ => rfl) fun isDelta => ?_
  obtain ⟨hne, hdelta⟩ := not_or.mp isDelta
  exact add_sext_emod ((bptcfModeShape_default hc hk).deltaBits_le ch) _
    (fieldOf_delta_lt hc hk (Bool.eq_true_of_not_eq_false hdelta) hch (Nat.pos_of_ne_zero hne) hep v)

theorem endpointValue_eq {c : Config} (hc : c.tables = none) (signed : Bool) {k : BptcfMode} (hk : k ∈ bptcfModes c)
    {ch : Nat} (hch : ch < 3) (v ep : Nat) :
    endpointValue signed k v ch ep =
      if signed = true ∧ 2 ^ (k.epb - 1) ≤ endpointBits k v ch ep then (endpointBits k v ch ep : Int) - 2 ^ k.epb
      else (endpointBits k v ch ep : Int) := by
  cases signed with
  | false => simp [endpointValue]
  | true => simp [endpointValue, sext_of_lt (endpointBits_lt hc hk hch v ep)]

theorem unqU_eq (epb : Nat) (x : Int) :
    unqU epb x =
      if 15 ≤ epb then x else if x = 0 then 0 else if x = 2 ^ epb - 1 then 65535 else (x * 65536 + 32768) / 2 ^ epb := by
  have top : ((2 ^ epb - 1 : Nat) : Int) = 2 ^ epb - 1 := by simp
  rw [unqU, top, Nat.cast_pow]
  rfl

/-! ## Texels -/

/-- `HALF_TO_BYTE` by the cases of its argument (46_bptc_float.md rule R318). -/
theorem halfToByte_default {c : Config} (hc : c.tables = none) {h : Nat} (hh : h < 0x10000) :
    halfToByte c h =
      if 32768 ≤ h then 0 else if 0x3C00 ≤ h then 255
      else if h < 1024 then (h * 255 + 2 ^ 23) / 2 ^ 24
      else ((1024 + h % 1024) * 255 + 2 ^ (24 - h / 1024)) / 2 ^ (25 - h / 1024) := by
  have sign : bitsOf h 15 1 = 1 ↔ 32768 ≤ h := by unfold bitsOf; omega
  rw [halfToByte, hc]
  simp only [stdHalfToByte, sign]
  by_cases negative : 32768 ≤ h
  · rw [if_pos negative, if_pos negative]
  have below : bitsOf h 0 15 = h := by rw [bitsOf_zero]; omega
  rw [if_neg negative, if_neg negative, below]
  by_cases atLeastOne : 0x3C00 ≤ h
  · rw [if_pos atLeastOne, if_pos atLeastOne]
  have exponent : bitsOf h 10 5 = h / 1024 := by unfold bitsOf; omega
  have fraction : bitsOf h 0 10 = h % 1024 := bitsOf_zero h 10
  rw [if_neg atLeastOne, if_neg atLeastOne, exponent, fraction]
  by_cases subnormal : h < 1024
  · rw [if_pos subnormal, Nat.div_eq_of_lt subnormal, Nat.mod_eq_of_lt subnormal]
    rfl
  · have normal : h / 1024 ≠ 0 := by omega
    have half : 25 - h / 1024 - 1 = 24 - h / 1024 := by omega
    simp only [if_neg subnormal, if_neg normal, half]

/-- A texel holds the bytes of its three half-floats (46_bptc_float.md rule R314). -/
theorem bptcf_getElem? {c : Config} (hc : c.tables = none) (signed : Bool) {k : BptcfMode} (hk : k ∈ bptcfModes c)
    {v t : Nat} (hv : bptcfModeOf c v = some k) (ht : t < 16) :
    let byte := fun ch => halfToByte c (bptcfHalf c signed k v (bptcfIndices c k v) t ch)
    (bptcf c signed v)[t]? = some (pixelOf (byte 0) (byte 1) (byte 2) 255) := by
  simp only [bptcf, hv, List.getElem?_map, List.getElem?_range ht, Option.map_some,
    halfByte_default hc signed hk v (bptcfIndices c k v) t (show 0 < 3 by decide),
    halfByte_default hc signed hk v (bptcfIndices c k v) t (show 1 < 3 by decide),
    halfByte_default hc signed hk v (bptcfIndices c k v) t (show 2 < 3 by decide)]

/-- The half-float of an interpolated value in both kinds (46_bptc_float.md rule R313). -/
theorem bptcfHalf_eq {c : Config} (hc : c.tables = none) (signed : Bool) {k : BptcfMode} (hk : k ∈ bptcfModes c)
    (v : Nat) (idx : List Nat) (t ch : Nat) :
    let x := bptcfValue c signed k v idx t ch
    bptcfHalf c signed k v idx t ch =
      if signed = false then (x * 31 / 64).toNat
      else if 0 ≤ x then (x * 31 / 32).toNat
      else if -x * 31 / 32 = 0 then 0 else 32768 + (-x * 31 / 32).toNat := by
  cases signed with
  | false => rfl
  | true => exact halfOf_signed (bptcfValue_signed hc hk v idx t ch).1

theorem bptcfHalf_lt {c : Config} (hc : c.tables = none) (signed : Bool) {k : BptcfMode} (hk : k ∈ bptcfModes c)
    (v : Nat) (idx : List Nat) (t : Nat) {ch : Nat} (hch : ch < 3) : bptcfHalf c signed k v idx t ch < 0x10000 := by
  obtain ⟨unsignedHalf, signedHalf, -⟩ := bptcfHalvesStayInRange c k v idx t ch hc hk hch
  cases signed with
  | false => omega
  | true => exact signedHalf

/-- Settles O46: each part of a texel is brought to the form in which the rules write it. -/
theorem bptcfTexelsFollowTheRules : Obligations.BptcfTexelsFollowTheRules := by
  refine ⟨fun c signed v hc h => by rw [bptcf, bptcfModeOf_eq_none hc h]; rfl, ?_⟩
  intro c signed v t k hc hk hv ht itemBitsRule field deltaWidth raw value unsignedUnq magnitude signedUnq part sub index
    weight half byte
  have shape := bptcfModeShape_default hc hk
  have hpart : part < 64 := (Nat.mod_lt _ (by decide)).trans (by decide)
  have hsub : bc7Subset c k.regions part t = sub := by
    rcases shape.regions_cases with h | h <;> simp [bc7Subset, sub, h]
  have hsubLt : sub < 2 := by
    have below := hsub ▸ bc7Subset_lt hc (by have := shape.regions_cases; omega) hpart ht
    have := shape.regions_cases
    omega
  have hfield : ∀ ch ep, fieldOf k.layout v ch ep = field ch ep := fun ch ep =>
    congrArg List.sum (List.map_congr_left fun it _ => itemBits_eq_sum v it)
  have hraw : ∀ ch < 3, ∀ ep < 4, endpointBits k v ch ep = raw ch ep := by
    intro ch hch ep hep
    rw [endpointBits_eq hc hk hch hep, hfield, hfield]
    rfl
  have hvalue : ∀ ch < 3, ∀ ep < 4, endpointValue signed k v ch ep = value ch ep := by
    intro ch hch ep hep
    rw [endpointValue_eq hc signed hk hch, hraw ch hch ep hep]
  have hunq : ∀ x, unq signed k.epb x = if signed = true then signedUnq x else unsignedUnq x := fun x =>
    if_ctx_congr Iff.rfl (fun _ => rfl) fun _ => unqU_eq k.epb x
  have hweight : (bc7W c (bptcfIndexBits k)).getD ((bptcfIndices c k v).getD t 0) 0 = weight := by
    rw [bc7W_default hc (by unfold bptcfIndexBits; split_ifs <;> omega)]
    rcases shape.regions_cases with h | h <;> simp [bptcfIndexBits, weight, h] <;> rfl
  have hinterp : ∀ ch < 3, bptcfValue c signed k v (bptcfIndices c k v) t ch =
      halfInterp (unq signed k.epb (value ch (2 * sub))) (unq signed k.epb (value ch (2 * sub + 1))) weight := by
    intro ch hch
    rw [← hvalue ch hch _ (by omega), ← hvalue ch hch _ (by omega), ← hweight, ← hsub]
    rfl
  have hhalf : ∀ ch < 3, bptcfHalf c signed k v (bptcfIndices c k v) t ch = half ch := by
    intro ch hch
    rw [bptcfHalf_eq hc signed hk, hinterp ch hch, hunq, hunq]
    rfl
  have hbyte : ∀ ch < 3, halfToByte c (bptcfHalf c signed k v (bptcfIndices c k v) t ch) = byte (half ch) := by
    intro ch hch
    rw [halfToByte_default hc (bptcfHalf_lt hc signed hk v _ t hch), hhalf ch hch]
  have texel := bptcf_getElem? hc signed hk (bptcfModeOf_eq_some hc hk (hv.trans (bptcfModeValue_eq v).symm)) ht
  simp only [hbyte 0 (by decide), hbyte 1 (by decide), hbyte 2 (by decide)] at texel
  exact texel

end Sys2Proof.Machine
end

section
/-! SUPPORT. The stages of PVRTC on accepted pictures (47_pvrtc.md rules R330, R344, R345). -/

namespace Sys2Proof.Machine

@[simp] theorem pictureOf_length (pixel : Nat → Nat → Pixel) (w h : Nat) : (pictureOf pixel w h).length = w * h := by
  simp [pictureOf]

theorem pictureOf_getElem? (pixel : Nat → Nat → Pixel) {w h x y : Nat} (hx : x < w) (hy : y < h) :
    (pictureOf pixel w h)[y * w + x]? = some (pixel x y) := by
  have column : (y * w + x) % w = x := by rw [Nat.mul_add_mod', Nat.mod_eq_of_lt hx]
  have row : (y * w + x) / w = y := by
    rw [Nat.mul_comm, Nat.mul_add_div (Nat.zero_lt_of_lt hx), Nat.div_eq_of_lt hx, Nat.add_zero]
  rw [pictureOf, List.getElem?_map, List.getElem?_range (pixelIndex_lt hx hy), Option.map_some, column, row]

theorem State.withCanon_midJob (s : State) (px : List Pixel) (g : Stage) : s.midJob (s.withCanon px g) := by
  simp [State.midJob, State.sameInputs, State.sameOutputs, State.sameStatus]

theorem pvrtStage_legal {k : Special} {ro : Reorder} {s : State} (pixel : WordGrid → Nat → Nat → Pixel)
    (hl : blocksLegal s.cfg k ro s.w s.h) (hn : specialBytes k s.w s.h ≤ s.inLen.toNat) :
    pvrtStage k pixel ro s =
      .next (s.withCanon (pictureOf (pixel (readGrid s.inBuf (blocksX k s.w) (blocksY k s.h))) s.w s.h) .reorder) := by
  simp only [pvrtStage, specialSub_eq_none_iff.mpr hl, checkBytes_of_le hn]

/-- What an accepted picture leaves, for either kind. -/
theorem pvrtStage_completes {k : Special} {ro : Reorder} {s : State} (pixel : WordGrid → Nat → Nat → Pixel)
    (hl : blocksLegal s.cfg k ro s.w s.h) (hn : specialBytes k s.w s.h ≤ s.inLen.toNat) :
    ∃ t, pvrtStage k pixel ro s = .next t ∧ t.stage = .reorder ∧ t.canon.length = s.area ∧
      (∀ x y, x < s.w → y < s.h →
        t.canon[y * s.w + x]? = some (pixel (readGrid s.inBuf (blocksX k s.w) (blocksY k s.h)) x y)) ∧
      t.cur = s.cur ∧ t.idxBuf = s.idxBuf ∧ t.tables = s.tables ∧ t.tile = s.tile ∧ s.midJob t :=
  ⟨_, pvrtStage_legal pixel hl hn, rfl, pictureOf_length .., fun _ _ hx hy => pictureOf_getElem? _ hx hy, rfl, rfl, rfl,
    rfl, State.withCanon_midJob ..⟩

/-- Settles O35: both instructions are the same stage, with the word widths of their kinds. -/
theorem pvrtCompletes : Obligations.PvrtCompletes := fun s =>
  ⟨pvrtStage_completes (k := .pvrt4) (pvrt4Pixel s.cfg), pvrtStage_completes (k := .pvrt2) (pvrt2Pixel s.cfg)⟩

end Sys2Proof.Machine
end

section
/-! SUPPORT. The twiddle of the word grid (47_pvrtc.md rule R335): its low bits, its high part, and the bijection. -/

namespace Sys2Proof.Machine

/-! ## Interleaved bits -/

theorem interleave_lt (k x y : Nat) : interleave k x y < 4 ^ k := by
  induction k generalizing x y with
  | zero => exact Nat.one_pos
  | succ k ih =>
    have := ih (x / 2) (y / 2)
    rw [interleave, Nat.pow_succ]
    omega

theorem testBit_interleave {k i : Nat} (hi : i < k) (x y : Nat) :
    (interleave k x y).testBit (2 * i) = y.testBit i ∧ (interleave k x y).testBit (2 * i + 1) = x.testBit i := by
  induction k generalizing x y i with
  | zero => exact absurd hi (Nat.not_lt_zero i)
  | succ k ih =>
    have half : interleave (k + 1) x y / 2 = x % 2 + 2 * interleave k (x / 2) (y / 2) := by rw [interleave]; omega
    have quarter : interleave (k + 1) x y / 2 / 2 = interleave k (x / 2) (y / 2) := by omega
    have low : interleave (k + 1) x y % 2 = y % 2 := by rw [interleave]; omega
    cases i with
    | zero => simp [Nat.testBit_succ, half, low]
    | succ i =>
      simpa only [Nat.mul_succ, Nat.testBit_succ, quarter] using ih (Nat.lt_of_succ_lt_succ hi) (x / 2) (y / 2)

theorem mod_two_pow_eq_of_testBit {k u v : Nat} (h : ∀ i, i < k → u.testBit i = v.testBit i) :
    u % 2 ^ k = v % 2 ^ k := by
  refine Nat.eq_of_testBit_eq fun i => ?_
  rw [Nat.testBit_mod_two_pow, Nat.testBit_mod_two_pow]
  by_cases hi : i < k
  · rw [h i hi]
  · simp [hi]

/-- Interleaving forgets only the bits above the low `k`. -/
theorem mod_eq_of_interleave_eq {k x y x' y' : Nat} (h : interleave k x y = interleave k x' y') :
    x % 2 ^ k = x' % 2 ^ k ∧ y % 2 ^ k = y' % 2 ^ k :=
  ⟨mod_two_pow_eq_of_testBit fun i hi => by rw [← (testBit_interleave hi x y).2, h, (testBit_interleave hi x' y').2],
    mod_two_pow_eq_of_testBit fun i hi => by rw [← (testBit_interleave hi x y).1, h, (testBit_interleave hi x' y').1]⟩

/-! ## The twiddle -/

section
variable {nx ny k : Nat} (hk : 2 ^ k = min nx ny)
include hk

theorem twiddle_eq (x y : Nat) :
    twiddle nx ny x y = interleave k x y + 4 ^ k * ((if ny < nx then x else y) / 2 ^ k) := by
  rw [twiddle, ← hk, Nat.log2_two_pow, Nat.mul_comm, apply_ite (· / 2 ^ k)]

theorem twiddle_div (x y : Nat) : twiddle nx ny x y / 4 ^ k = (if ny < nx then x else y) / 2 ^ k := by
  rw [twiddle_eq hk, Nat.add_mul_div_left _ _ (Nat.pow_pos (by decide)), Nat.div_eq_of_lt (interleave_lt k x y),
    Nat.zero_add]

theorem twiddle_mod (x y : Nat) : twiddle nx ny x y % 4 ^ k = interleave k x y := by
  rw [twiddle_eq hk, Nat.add_mul_mod_self_left, Nat.mod_eq_of_lt (interleave_lt k x y)]

theorem testBit_twiddle {i : Nat} (hi : i < k) (x y : Nat) :
    (twiddle nx ny x y).testBit (2 * i) = y.testBit i ∧ (twiddle nx ny x y).testBit (2 * i + 1) = x.testBit i := by
  have low : ∀ j, j < 2 * k → (twiddle nx ny x y).testBit j = (interleave k x y).testBit j := fun j hj => by
    rw [← twiddle_mod hk x y, show 4 ^ k = 2 ^ (2 * k) from (Nat.pow_mul 2 2 k).symm, Nat.testBit_mod_two_pow,
      decide_eq_true hj, Bool.true_and]
  rw [low _ (by omega), low _ (by omega)]
  exact testBit_interleave hi x y

variable {x y : Nat} (hx : x < nx) (hy : y < ny)
include hx hy

/-- Of the two coordinates the shorter side's has no bits above the low `k`. -/
theorem shorter_div_eq_zero : (if ny < nx then y else x) / 2 ^ k = 0 := by
  refine Nat.div_eq_of_lt ?_
  split <;> omega

theorem twiddle_lt_of_dvd (hmax : 2 ^ k ∣ max nx ny) : twiddle nx ny x y < nx * ny := by
  have bound : (if ny < nx then x else y) / 2 ^ k < max nx ny / 2 ^ k := by
    refine Nat.div_lt_div_of_lt_of_dvd hmax ?_
    split <;> omega
  have area : nx * ny = 4 ^ k * (max nx ny / 2 ^ k) := by
    rw [← min_mul_max, ← hk, show 4 = 2 * 2 from rfl, Nat.mul_pow, Nat.mul_assoc, Nat.mul_div_cancel' hmax]
  rw [area, Nat.mul_comm, ← Nat.div_lt_iff_lt_mul (Nat.pow_pos (by decide)), twiddle_div hk]
  exact bound

theorem twiddle_inj {x' y' : Nat} (hx' : x' < nx) (hy' : y' < ny) (h : twiddle nx ny x y = twiddle nx ny x' y') :
    x = x' ∧ y = y' := by
  have low : x % 2 ^ k = x' % 2 ^ k ∧ y % 2 ^ k = y' % 2 ^ k :=
    mod_eq_of_interleave_eq (by rw [← twiddle_mod hk, h, twiddle_mod hk])
  have longer : (if ny < nx then x else y) / 2 ^ k = (if ny < nx then x' else y') / 2 ^ k := by
    rw [← twiddle_div hk, h, twiddle_div hk]
  have shorter : (if ny < nx then y else x) / 2 ^ k = (if ny < nx then y' else x') / 2 ^ k := by
    rw [shorter_div_eq_zero hk hx hy, shorter_div_eq_zero hk hx' hy']
  have high : x / 2 ^ k = x' / 2 ^ k ∧ y / 2 ^ k = y' / 2 ^ k := by
    split_ifs at longer shorter
    · exact ⟨longer, shorter⟩
    · exact ⟨shorter, longer⟩
  exact ⟨Nat.ext_div_modEq high.1 low.1, Nat.ext_div_modEq high.2 low.2⟩

end

/-- The smaller of two powers of two is one, and divides the larger. -/
theorem isPow2_min {m n : Nat} (hm : isPow2 m = true) (hn : isPow2 n = true) :
    ∃ k, 2 ^ k = min m n ∧ 2 ^ k ∣ max m n := by
  obtain ⟨a, rfl⟩ := isPow2_iff.mp hm
  obtain ⟨b, rfl⟩ := isPow2_iff.mp hn
  rcases Nat.le_total a b with h | h
  · have le := Nat.pow_le_pow_right (n := 2) (by decide) h
    exact ⟨a, (min_eq_left le).symm, (Nat.pow_dvd_pow 2 h).trans (max_eq_right le).symm.dvd⟩
  · have le := Nat.pow_le_pow_right (n := 2) (by decide) h
    exact ⟨b, (min_eq_right le).symm, (Nat.pow_dvd_pow 2 h).trans (max_eq_left le).symm.dvd⟩

section
variable {nx ny : Nat} (hnx : isPow2 nx = true) (hny : isPow2 ny = true)
include hnx hny

/-- The twiddle stays inside the stream of the grid's words. -/
theorem twiddle_lt {x y : Nat} (hx : x < nx) (hy : y < ny) : twiddle nx ny x y < nx * ny := by
  obtain ⟨k, hk, hmax⟩ := isPow2_min hnx hny
  exact twiddle_lt_of_dvd hk hx hy hmax

/-- The place in the stream of each word of the grid. -/
def twiddlePlace (p : Fin nx × Fin ny) : Fin (nx * ny) := ⟨twiddle nx ny p.1 p.2, twiddle_lt hnx hny p.1.2 p.2.2⟩

theorem twiddlePlace_injective : Function.Injective (twiddlePlace hnx hny) := by
  intro p q h
  obtain ⟨k, hk, -⟩ := isPow2_min hnx hny
  obtain ⟨hx, hy⟩ := twiddle_inj hk p.1.2 p.2.2 q.1.2 q.2.2 (congrArg Fin.val h)
  exact Prod.ext (Fin.ext hx) (Fin.ext hy)

/-- The grid has as many words as the stream has places. -/
theorem twiddlePlace_bijective : Function.Bijective (twiddlePlace hnx hny) :=
  (Fintype.bijective_iff_injective_and_card _).mpr ⟨twiddlePlace_injective hnx hny, by simp⟩

end

/-- Settles O38: the low and the high bits of a place give back both coordinates, and an injective map between as many
words as places reaches each. -/
theorem twiddleIsABijection : Obligations.TwiddleIsABijection := by
  intro nx ny hnx hny
  obtain ⟨k, hk, -⟩ := isPow2_min hnx hny
  refine ⟨fun j x y hj _ _ => ⟨fun i hi => testBit_twiddle hj hi x y, twiddle_div hj x y⟩,
    fun x y => twiddle_lt hnx hny, fun x y x' y' hx hy hx' hy' => twiddle_inj hk hx hy hx' hy', fun n hn => ?_⟩
  obtain ⟨⟨x, y⟩, hxy⟩ := (twiddlePlace_bijective hnx hny).surjective ⟨n, hn⟩
  exact ⟨x, y, x.2, y.2, congrArg Fin.val hxy⟩

end Sys2Proof.Machine
end

section
/-! SUPPORT. The value of a PVRTC pixel (47_pvrtc.md rules R331 to R343): the fields of a word, the cell of a pixel, the
modulation weights and the blend, in the terms of the rules; and the picture of a grid of equal colours (rule R354). -/

namespace Sys2Proof.Machine

theorem isPow2_pos {n : Nat} (h : isPow2 n = true) : 0 < n := by
  obtain ⟨a, rfl⟩ := isPow2_iff.mp h
  exact Nat.two_pow_pos a

/-! ## The fields of a word -/

theorem pvMod_bitsOf (v : Nat) {lo n : Nat} (h : lo + n ≤ 32) : bitsOf (pvMod v) lo n = bitsOf v lo n := by
  rw [pvMod, bitsOf_bitsOf v 0 32 h, Nat.zero_add]

theorem pvCol_bitsOf (v : Nat) {lo n : Nat} (h : lo + n ≤ 32) : bitsOf (pvCol v) lo n = bitsOf v (32 + lo) n :=
  bitsOf_bitsOf v 32 32 h

theorem pvMm_eq (v : Nat) : pvMm v = bitsOf v 32 1 := pvCol_bitsOf v (by decide)

/-- The four channels in the order R, G, B, A. -/
def Quad.channels (q : Quad) : List Nat := [q.r, q.g, q.b, q.a]

theorem pv4to5_eq (v : Nat) : pv4to5 v = 2 * v + v / 8 := by rw [pv4to5, Nat.mul_comm]

theorem pv3to5_eq (v : Nat) : pv3to5 v = 4 * v + v / 2 := by rw [pv3to5, Nat.mul_comm]

theorem a5_channels (v : Nat) :
    (a5 v).channels =
      if bitsOf v 47 1 = 1 then [bitsOf v 42 5, bitsOf v 37 5, 2 * bitsOf v 33 4 + bitsOf v 33 4 / 8, 15]
      else [2 * bitsOf v 40 4 + bitsOf v 40 4 / 8, 2 * bitsOf v 36 4 + bitsOf v 36 4 / 8,
        4 * bitsOf v 33 3 + bitsOf v 33 3 / 2, 2 * bitsOf v 44 3] := by
  simp only [a5, pvCol_bitsOf, Nat.reduceAdd, Nat.reduceLeDiff, pv4to5_eq, pv3to5_eq, Nat.mul_comm _ 2]
  split <;> rfl

theorem b5_channels (v : Nat) :
    (b5 v).channels =
      if bitsOf v 63 1 = 1 then [bitsOf v 58 5, bitsOf v 53 5, bitsOf v 48 5, 15]
      else [2 * bitsOf v 56 4 + bitsOf v 56 4 / 8, 2 * bitsOf v 52 4 + bitsOf v 52 4 / 8,
        2 * bitsOf v 48 4 + bitsOf v 48 4 / 8, 2 * bitsOf v 60 3] := by
  simp only [b5, pvCol_bitsOf, Nat.reduceAdd, Nat.reduceLeDiff, pv4to5_eq, Nat.mul_comm _ 2]
  split <;> rfl

/-! ## The cell of a pixel -/

theorem WordGrid.at_congr (g : WordGrid) {x y x' y' : Nat} (hx : x ≡ x' [MOD g.nx]) (hy : y ≡ y' [MOD g.ny]) :
    g.at x y = g.at x' y' := by
  rw [WordGrid.at, WordGrid.at, hx, hy]

/-- Half a word before a pixel, in a picture of `n` words, is its cell and its place there (47_pvrtc.md rule R337). -/
theorem cell_eq {side n : Nat} (hside : side = 4 ∨ side = 8) (hn : 0 < n) (p : Nat) :
    (p + side * n - side / 2) / side ≡ cellWord p side n [MOD n] ∧
      (p + side * n - side / 2) % side = cellPlace p side := by
  unfold cellWord cellPlace
  split
  case isTrue far =>
    have wraps : (p + side * n - side / 2) / side = p / side + n := by rcases hside with rfl | rfl <;> omega
    exact ⟨wraps ▸ Nat.add_mod_right .., by rcases hside with rfl | rfl <;> omega⟩
  case isFalse near =>
    have before : (p + side * n - side / 2) / side = p / side + (n - 1) := by rcases hside with rfl | rfl <;> omega
    exact ⟨before ▸ rfl, by rcases hside with rfl | rfl <;> omega⟩

/-! ## Upscaled colours -/

/-- The four factors sum to `4*WW` (47_pvrtc.md rule R338). -/
theorem upscaleSum_same {ww u v : Nat} (hu : u ≤ ww) (hv : v ≤ 4) (p : Nat) :
    upscaleSum (stdPvrtFactors ww u v) p p p p = 4 * ww * p := by
  obtain ⟨x, rfl⟩ := Nat.exists_eq_add_of_le hu
  obtain ⟨y, hy⟩ := Nat.exists_eq_add_of_le hv
  simp only [upscaleSum, stdPvrtFactors, List.getD_cons_zero, List.getD_cons_succ, Nat.add_sub_cancel_left, hy]
  ring

section
variable {c : Config} (hc : c.tables = none) {g : WordGrid} {ww : Nat} (hw : ww = 4 ∨ ww = 8)
include hc hw

/-- The upscaled colour from the cell that the coordinates of the rule name (47_pvrtc.md rules R337, R338). -/
theorem upscaled_eq (hnx : 0 < g.nx) (hny : 0 < g.ny) (five : Nat → Quad) (px py : Nat) :
    let x := (px + ww * g.nx - ww / 2) / ww
    let y := (py + 4 * g.ny - 4 / 2) / 4
    let fs := stdPvrtFactors ww ((px + ww * g.nx - ww / 2) % ww) ((py + 4 * g.ny - 4 / 2) % 4)
    let corner := fun x y ch => (five (g.at x y)).channels.getD ch 0
    let t := fun ch =>
      upscaleSum fs (corner x y ch) (corner (x + 1) y ch) (corner x (y + 1) ch) (corner (x + 1) (y + 1) ch)
    upscaled c g ww five px py = ⟨upColor ww (t 0), upColor ww (t 1), upColor ww (t 2), upAlpha ww (t 3)⟩ := by
  obtain ⟨column, u⟩ := cell_eq hw hnx px
  obtain ⟨row, v⟩ := cell_eq (.inl rfl) hny py
  simp only [u, v, g.at_congr column row, g.at_congr (column.add_right 1) row, g.at_congr column (row.add_right 1),
    g.at_congr (column.add_right 1) (row.add_right 1), upscaled, pvrtFactors, hc]
  rfl

/-- Where the words have one colour, so has the picture. -/
theorem upscaled_same {five : Nat → Quad} {q : Quad} (hq : ∀ x y, five (g.at x y) = q) (px py : Nat) :
    upscaled c g ww five px py =
      ⟨upColor ww (4 * ww * q.r), upColor ww (4 * ww * q.g), upColor ww (4 * ww * q.b), upAlpha ww (4 * ww * q.a)⟩ := by
  have hu : cellPlace px ww ≤ ww := cellPlace_le (by omega)
  have hv : cellPlace py 4 ≤ 4 := cellPlace_le (by decide)
  simp only [upscaled, pvrtFactors, hc, hq, upscaleSum_same hu hv]

end

/-! ## Modulation -/

/-- Bit `j` of `M'` on the fields of the word itself (47_pvrtc.md rule R340). -/
theorem pvrt2Fixed_eq (v : Nat) {j : Nat} (hj : j < 32) :
    pvrt2Fixed v j =
      if j = 0 then bitsOf v 1 1 else if j = 20 ∧ bitsOf v 0 1 = 1 then bitsOf v 21 1 else bitsOf v j 1 := by
  rw [pvrt2Fixed, pvMod_bitsOf v (by decide), pvMod_bitsOf v (by decide), pvMod_bitsOf v (by decide),
    pvMod_bitsOf v hj]

theorem pvrt2Sub_eq (v : Nat) : pvrt2Sub v = if bitsOf v 0 1 = 0 then 1 else if bitsOf v 20 1 = 1 then 3 else 2 := by
  rw [pvrt2Sub, pvMod_bitsOf v (by decide), pvMod_bitsOf v (by decide)]

section
variable {c : Config} (hc : c.tables = none)
include hc

theorem pvrt4Weight_eq (v : Nat) {lx ly : Nat} (hx : lx < 4) (hy : ly < 4) :
    let k := bitsOf v (2 * (4 * ly + lx)) 2
    (pvrt4Weight c v lx ly).1 = (if bitsOf v 32 1 = 0 then [0, 3, 5, 8] else [0, 4, 4, 8]).getD k 0 ∧
      ((pvrt4Weight c v lx ly).2 = true ↔ bitsOf v 32 1 = 1 ∧ k = 2) := by
  intro k
  have hk : k < 4 := bitsOf_lt v _ 2
  have mode : bitsOf v 32 1 < 2 := bitsOf_lt v 32 1
  have code : bitsOf (pvMod v) (2 * (4 * ly + lx)) 2 = k := pvMod_bitsOf v (by omega)
  have punches : ∀ k < 4, (stdPvrtPunch.getD k false = true ↔ k = 2) := by decide
  simp only [pvrt4Weight, pvMm_eq, code, pvrtMod0, pvrtMod1, pvrtPunch, hc]
  split
  case isTrue plain => simp [plain, stdPvrtMod0]
  case isFalse punchThrough =>
    have one : bitsOf v 32 1 = 1 := by omega
    simpa [one, stdPvrtMod1] using punches k hk

/-- The weight of a stored code, whose place wraps around the picture (47_pvrtc.md rules R340, R341). -/
theorem pvrt2Stored_eq (g : WordGrid) (qx qy : Nat) :
    let v := g.at (qx / 8) (qy / 4)
    let i := 4 * (qy % 4) + qx % 8 / 2
    let low := if i = 0 then bitsOf v 1 1 else if i = 10 ∧ bitsOf v 0 1 = 1 then bitsOf v 21 1 else bitsOf v (2 * i) 1
    pvrt2Stored c g qx qy =
      if bitsOf v 32 1 = 0 then 8 * bitsOf v (8 * (qy % 4) + qx % 8) 1
      else [0, 3, 5, 8].getD (low + 2 * bitsOf v (2 * i + 1) 1) 0 := by
  intro v i low
  have wrapped : g.at (qx % (8 * g.nx) / 8) (qy % (4 * g.ny) / 4) = v := by
    rw [Nat.mod_mul_right_div_self, Nat.mod_mul_right_div_self]
    exact g.at_congr (Nat.mod_modEq ..) (Nat.mod_modEq ..)
  simp only [pvrt2Stored, wrapped, Nat.mod_mul_right_mod, pvrt2Code, pvMm_eq, pvrtRep, hc]
  have hi : i < 16 := by omega
  split
  case isTrue plain =>
    have hbit := bitsOf_lt v (8 * (qy % 4) + qx % 8) 1
    rw [pvMod_bitsOf v (by omega)]
    interval_cases bitsOf v (8 * (qy % 4) + qx % 8) 1 <;> rfl
  case isFalse checkerboard =>
    have lowBit : pvrt2Fixed v (2 * i) = low := by
      simp only [pvrt2Fixed_eq v (show 2 * i < 32 by omega), low, show 2 * i = 0 ↔ i = 0 by omega,
        show 2 * i = 20 ↔ i = 10 by omega]
    have highBit : pvrt2Fixed v (2 * i + 1) = bitsOf v (2 * i + 1) 1 := by
      rw [pvrt2Fixed_eq v (by omega), if_neg (by omega), if_neg (by omega)]
    rw [← lowBit, ← highBit]
    rfl

end

/-- The sub-mode's mean of the stored neighbours (47_pvrtc.md rules R340, R341). -/
theorem pvrt2Weight_eq (c : Config) (g : WordGrid) (hnx : 0 < g.nx) (hny : 0 < g.ny) (px py : Nat) :
    let v := g.at (px / 8) (py / 4)
    let left := pvrt2Stored c g (px + 8 * g.nx - 1) py
    let right := pvrt2Stored c g (px + 1) py
    let above := pvrt2Stored c g px (py + 4 * g.ny - 1)
    let below := pvrt2Stored c g px (py + 1)
    pvrt2Weight c g px py =
      if bitsOf v 32 1 = 0 ∨ (px + py) % 2 = 0 then pvrt2Stored c g px py
      else if bitsOf v 0 1 = 0 then (above + below + left + right + 2) / 4
      else if bitsOf v 20 1 = 1 then (above + below + 1) / 2
      else (left + right + 1) / 2 := by
  intro v left right above below
  have hleft : px + (8 * g.nx - 1) = px + 8 * g.nx - 1 := by omega
  have habove : py + (4 * g.ny - 1) = py + 4 * g.ny - 1 := by omega
  simp only [pvrt2Weight, hleft, habove, pvMm_eq, pvrt2Sub_eq]
  by_cases bothWays : bitsOf v 0 1 = 0
  · simp only [v, bothWays, if_true]
    rfl
  by_cases vertical : bitsOf v 20 1 = 1 <;> simp only [v, bothWays, vertical] <;> rfl

/-! ## The pixel -/

/-- Four channels that are bytes. -/
def Quad.isBytes (q : Quad) : Prop := q.r ≤ 255 ∧ q.g ≤ 255 ∧ q.b ≤ 255 ∧ q.a ≤ 255

theorem pvrtPixel_eq {a b : Quad} {m : Nat} (ha : a.isBytes) (hb : b.isBytes) (hm : m ≤ 8) (punch : Bool) :
    let blend := fun a b : Nat => (a * (8 - m) + b * m) / 8
    pvrtPixel a b m punch =
      pixelOf (blend a.r b.r) (blend a.g b.g) (blend a.b b.b) (if punch then 0 else blend a.a b.a) := by
  obtain ⟨ar, ag, ab, aa⟩ := ha
  obtain ⟨br, bg, bb, ba⟩ := hb
  simp only [pvrtPixel, modulate_eq hm, ar, ag, ab, aa, br, bg, bb, ba]

/-- Under the default tables the pixel of PVRT4 is the plain blend (47_pvrtc.md rules R343, R344). -/
theorem pvrt4Pixel_eq {c : Config} (hc : c.tables = none) (g : WordGrid) (px py : Nat) :
    let a := upscaled c g 4 a5 px py
    let b := upscaled c g 4 b5 px py
    let w := pvrt4Weight c (g.at (px / 4) (py / 4)) (px % 4) (py % 4)
    let blend := fun a b : Nat => (a * (8 - w.1) + b * w.1) / 8
    pvrt4Pixel c g px py =
      pixelOf (blend a.r b.r) (blend a.g b.g) (blend a.b b.b) (if w.2 then 0 else blend a.a b.a) :=
  pvrtPixel_eq (upscaled_le hc g (.inl rfl) a5_small px py) (upscaled_le hc g (.inl rfl) b5_small px py)
    (pvrt4Weight_le hc ..) _

/-- Under the default tables the pixel of PVRT2 is the plain blend (47_pvrtc.md rules R343, R345). -/
theorem pvrt2Pixel_eq {c : Config} (hc : c.tables = none) (g : WordGrid) (px py : Nat) :
    let a := upscaled c g 8 a5 px py
    let b := upscaled c g 8 b5 px py
    let m := pvrt2Weight c g px py
    let blend := fun a b : Nat => (a * (8 - m) + b * m) / 8
    pvrt2Pixel c g px py = pixelOf (blend a.r b.r) (blend a.g b.g) (blend a.b b.b) (blend a.a b.a) :=
  pvrtPixel_eq (upscaled_le hc g (.inr rfl) a5_small px py) (upscaled_le hc g (.inr rfl) b5_small px py)
    (pvrt2Weight_le hc ..) false

/-- Between equal colours the modulation does nothing. -/
theorem pvrtPixel_same {a : Quad} {m : Nat} (ha : a.isBytes) (hm : m ≤ 8) (punch : Bool) :
    pvrtPixel a a m punch = pixelOf a.r a.g a.b (if punch then 0 else a.a) := by
  have blend : ∀ n, (n * (8 - m) + n * m) / 8 = n := fun n => by
    rw [← Nat.mul_add, Nat.sub_add_cancel hm, Nat.mul_div_cancel _ (by decide)]
  simp only [pvrtPixel_eq ha ha hm, blend]

/-! ## Grids of equal colours -/

theorem WordGrid.at_mem {g : WordGrid} (hnx : isPow2 g.nx = true) (hny : isPow2 g.ny = true)
    (hlen : g.words.length = g.nx * g.ny) (x y : Nat) : g.at x y ∈ g.words := by
  have inside : twiddle g.nx g.ny (x % g.nx) (y % g.ny) < g.words.length :=
    hlen ▸ twiddle_lt hnx hny (Nat.mod_lt _ (isPow2_pos hnx)) (Nat.mod_lt _ (isPow2_pos hny))
  rw [WordGrid.at, List.getD_eq_getElem _ _ inside]
  exact List.getElem_mem inside

/-- Rule R354 (property T7 of the source): a grid whose words have one colour twice. -/
theorem pvrt_uniform (c : Config) (g : WordGrid) (q : Quad) (px py : Nat) (hc : c.tables = none)
    (hnx : isPow2 g.nx = true) (hny : isPow2 g.ny = true) (hlen : g.words.length = g.nx * g.ny)
    (hq : ∀ v ∈ g.words, a5 v = q ∧ b5 v = q) :
    pvrt4Pixel c g px py =
        pixelOf (upColor 4 (16 * q.r)) (upColor 4 (16 * q.g)) (upColor 4 (16 * q.b))
          (if (pvrt4Weight c (g.at (px / 4) (py / 4)) (px % 4) (py % 4)).2 then 0 else upAlpha 4 (16 * q.a)) ∧
      pvrt2Pixel c g px py =
        pixelOf (upColor 8 (32 * q.r)) (upColor 8 (32 * q.g)) (upColor 8 (32 * q.b)) (upAlpha 8 (32 * q.a)) := by
  have hword := fun x y => hq _ (WordGrid.at_mem hnx hny hlen x y)
  have sameA := fun {ww : Nat} (hw : ww = 4 ∨ ww = 8) => upscaled_same hc hw (fun x y => (hword x y).1) px py
  have sameB := fun {ww : Nat} (hw : ww = 4 ∨ ww = 8) => upscaled_same hc hw (fun x y => (hword x y).2) px py
  have bytes4 := sameA (.inl rfl) ▸ upscaled_le hc g (.inl rfl) a5_small px py
  have bytes8 := sameA (.inr rfl) ▸ upscaled_le hc g (.inr rfl) a5_small px py
  rw [pvrt4Pixel, pvrt2Pixel, sameA (.inl rfl), sameB (.inl rfl), sameA (.inr rfl), sameB (.inr rfl)]
  exact ⟨pvrtPixel_same bytes4 (pvrt4Weight_le hc ..) _, pvrtPixel_same bytes8 (pvrt2Weight_le hc ..) _⟩

/-- The worked grid of 4 by 2 equal words (47_pvrtc.md rule R354). -/
def workedGrid : WordGrid := ⟨4, 2, List.replicate 8 0xD16CD16CAAAAAAAA⟩

theorem workedGrid_at (x y : Nat) : workedGrid.at x y = 0xD16CD16CAAAAAAAA :=
  List.eq_of_mem_replicate (WordGrid.at_mem (g := workedGrid) rfl rfl rfl x y)

theorem workedGrid_pixels {c : Config} (hc : c.tables = none) (px py : Nat) :
    pvrt4Pixel c workedGrid px py = pixelOf 165 90 99 255 ∧ pvrt2Pixel c workedGrid px py = pixelOf 165 90 99 255 := by
  have colours : ∀ v ∈ workedGrid.words, a5 v = ⟨20, 11, 12, 15⟩ ∧ b5 v = ⟨20, 11, 12, 15⟩ := by decide
  obtain ⟨pixel4, pixel2⟩ := pvrt_uniform c workedGrid _ px py hc rfl rfl rfl colours
  have noPunch : (pvrt4Weight c (workedGrid.at (px / 4) (py / 4)) (px % 4) (py % 4)).2 = false := by
    rw [workedGrid_at]
    rfl
  rw [noPunch] at pixel4
  exact ⟨pixel4, pixel2⟩

/-- Settles O37: the parts of a pixel's blend are brought to the form in which the rules write them. -/
theorem pvrtcPixelsFollowTheRules : Obligations.PvrtcPixelsFollowTheRules := by
  unfold Obligations.PvrtcPixelsFollowTheRules
  intro field four colA colB word sum up4 up8 blend code4 weight4 punch4 stored weight2
  refine ⟨?rules, pvrt_uniform, fun c px py hc => workedGrid_pixels hc px py⟩
  intro c g px py hc hnx hny out4 out8
  replace hnx := isPow2_pos hnx
  replace hny := isPow2_pos hny
  have hA : colA = Quad.channels ∘ a5 := funext fun v => (a5_channels v).symm
  have hB : colB = Quad.channels ∘ b5 := funext fun v => (b5_channels v).symm
  have hup4 : ∀ five, upscaled c g 4 five px py =
      let up := up4 g (Quad.channels ∘ five) px py
      ⟨up 0, up 1, up 2, up 3⟩ :=
    fun five => upscaled_eq hc (.inl rfl) hnx hny five px py
  have hup8 : ∀ five, upscaled c g 8 five px py =
      let up := up8 g (Quad.channels ∘ five) px py
      ⟨up 0, up 1, up 2, up 3⟩ :=
    fun five => upscaled_eq hc (.inr rfl) hnx hny five px py
  have hstored : stored g = pvrt2Stored c g := funext fun qx => funext fun qy => (pvrt2Stored_eq hc g qx qy).symm
  have hweight2 : pvrt2Weight c g px py = weight2 g px py := by
    simp only [weight2, hstored]
    exact pvrt2Weight_eq c g hnx hny px py
  obtain ⟨hweight4, hpunch4⟩ := pvrt4Weight_eq hc (g.at (px / 4) (py / 4)) (Nat.mod_lt px (by decide : 0 < 4))
    (Nat.mod_lt py (by decide : 0 < 4))
  have pixel4 := pvrt4Pixel_eq hc g px py
  have pixel2 := pvrt2Pixel_eq hc g px py
  simp only [hup4, hup8, hweight4, hpunch4, hweight2] at pixel4 pixel2
  simp only [out4, out8, hA, hB]
  exact ⟨pixel4, pixel2⟩

end Sys2Proof.Machine
end

section
/-! SUPPORT. Tiles of equal size in raster order, whose places the tiled-3DS and PSP maps give (48_reorder.md rules R368
to R371, R380, R381). -/

namespace Sys2Proof.Machine

/-! ## Places of a picture -/

theorem pixelIndex_mod {w x : Nat} (hx : x < w) (y : Nat) : (y * w + x) % w = x := by
  rw [Nat.mul_add_mod', Nat.mod_eq_of_lt hx]

theorem pixelIndex_div {w x : Nat} (hx : x < w) (y : Nat) : (y * w + x) / w = y := by
  rw [Nat.mul_comm, Nat.mul_add_div (Nat.zero_lt_of_lt hx), Nat.div_eq_of_lt hx, Nat.add_zero]

/-! ## Tiles -/

/-- The index, in a picture whose rows hold `across` tiles of `tw` by `th`, of place `p` of tile number `tile`; pixels,
tiles and places are counted in raster order. -/
def tilePlace (across tw th tile p : Nat) : Nat :=
  (tile / across * th + p / tw) * (across * tw) + (tile % across * tw + p % tw)

section
variable {across down tw th : Nat}

theorem tilePlace_column_lt {tile p : Nat} (ht : tile < across * down) (hp : p < tw * th) :
    tile % across * tw + p % tw < across * tw :=
  Nat.mul_comm tw across ▸
    pixelIndex_lt (Nat.mod_lt p (Nat.pos_of_lt_mul_right hp)) (Nat.mod_lt tile (Nat.pos_of_lt_mul_right ht))

theorem tilePlace_lt {tile p : Nat} (ht : tile < across * down) (hp : p < tw * th) :
    tilePlace across tw th tile p < across * tw * (down * th) := by
  refine pixelIndex_lt (tilePlace_column_lt ht hp) ?_
  rw [Nat.mul_comm down th]
  exact pixelIndex_lt (Nat.div_lt_of_lt_mul hp) (Nat.div_lt_of_lt_mul ht)

/-- No two places of tiles are one: the picture's column and row give the tile's and those in the tile. -/
theorem tilePlace_inj {tile p tile' p' : Nat} (ht : tile < across * down) (hp : p < tw * th)
    (ht' : tile' < across * down) (hp' : p' < tw * th)
    (h : tilePlace across tw th tile p = tilePlace across tw th tile' p') : tile = tile' ∧ p = p' := by
  have htw : 0 < tw := Nat.pos_of_lt_mul_right hp
  obtain ⟨column, row⟩ := (pixelIndex_inj (tilePlace_column_lt ht' hp') (tilePlace_column_lt ht hp)).mp h
  obtain ⟨px, tx⟩ := (pixelIndex_inj (Nat.mod_lt p' htw) (Nat.mod_lt p htw)).mp column
  obtain ⟨py, ty⟩ := (pixelIndex_inj (Nat.div_lt_of_lt_mul hp') (Nat.div_lt_of_lt_mul hp)).mp row
  exact ⟨Nat.ext_div_mod ty tx, Nat.ext_div_mod py px⟩

end

/-! ## tiled-3DS -/

theorem tile3dsOrder_default {c : Config} (hc : c.tables = none) : tile3dsOrder c = stdTile3dsOrder := by
  rw [tile3dsOrder, hc]; rfl

/-- The column in the tile is in bits 0, 2, 4 of the number and the row in bits 1, 3, 5 (48_reorder.md rule R369). -/
theorem stdTile3dsOrder_bits : ∀ p < 64,
    let bit := fun n : Nat => p / 2 ^ n % 2
    stdTile3dsOrder.getD p 0 / 8 = bit 1 + 2 * bit 3 + 4 * bit 5 ∧
      stdTile3dsOrder.getD p 0 % 8 = bit 0 + 2 * bit 2 + 4 * bit 4 := by decide

theorem stdTile3dsOrder_lt : ∀ p < 64, stdTile3dsOrder.getD p 0 < 8 * 8 := by decide

theorem stdTile3dsOrder_nodup : stdTile3dsOrder.Nodup := by decide

/-- No two numbers have one place. -/
theorem stdTile3dsOrder_inj {p q : Nat} (hp : p < 64) (hq : q < 64)
    (h : stdTile3dsOrder.getD p 0 = stdTile3dsOrder.getD q 0) : p = q := by
  rw [List.getD_eq_getElem _ _ hp, List.getD_eq_getElem _ _ hq] at h
  exact stdTile3dsOrder_nodup.getElem_inj_iff.mp h

section
variable {c : Config} (hc : c.tables = none)
include hc

theorem mapTile3ds_eq_tilePlace (i across : Nat) :
    mapTile3ds c i (across * 8) = tilePlace across 8 8 (i / 64) (stdTile3dsOrder.getD (i % 64) 0) := by
  rw [mapTile3ds, tile3dsOrder_default hc, Nat.mul_div_cancel _ (by decide : 0 < 8)]
  rfl

variable {across down : Nat}

theorem mapTile3ds_lt {i : Nat} (hi : i < across * 8 * (down * 8)) :
    mapTile3ds c i (across * 8) < across * 8 * (down * 8) := by
  rw [mapTile3ds_eq_tilePlace hc]
  refine tilePlace_lt (Nat.div_lt_of_lt_mul ?_) (stdTile3dsOrder_lt _ (Nat.mod_lt i (by decide)))
  linarith

theorem mapTile3ds_inj {i j : Nat} (hi : i < across * 8 * (down * 8)) (hj : j < across * 8 * (down * 8))
    (h : mapTile3ds c i (across * 8) = mapTile3ds c j (across * 8)) : i = j := by
  rw [mapTile3ds_eq_tilePlace hc, mapTile3ds_eq_tilePlace hc] at h
  have number : ∀ n, n % 64 < 64 := fun n => Nat.mod_lt n (by decide)
  have tile : ∀ n, n < across * 8 * (down * 8) → n / 64 < across * down := fun n hn =>
    Nat.div_lt_of_lt_mul (by linarith)
  obtain ⟨htile, hplace⟩ := tilePlace_inj (tile i hi) (stdTile3dsOrder_lt _ (number i)) (tile j hj)
    (stdTile3dsOrder_lt _ (number j)) h
  exact Nat.ext_div_mod htile (stdTile3dsOrder_inj (number i) (number j) hplace)

end

/-! ## PSP -/

section
variable {te eb : Nat} (h128 : te * eb = 128)
include h128

/-- A tile is 16 bytes wide: `te` elements of `eb` bits. -/
theorem pspTile_pos : 0 < te ∧ 0 < eb := CanonicallyOrderedAdd.mul_pos.mp (h128.symm ▸ by decide)

theorem mapPsp_eq_tilePlace (i across : Nat) :
    mapPsp i (across * te) eb = tilePlace across te 8 (i / (te * 8)) (i % (te * 8)) := by
  obtain ⟨hte, heb⟩ := pspTile_pos h128
  have width : 128 / eb = te := by rw [← h128, Nat.mul_div_cancel _ heb]
  simp only [mapPsp, width, Nat.mul_div_cancel _ hte, Nat.mul_comm 8 te, tilePlace]

variable {across down : Nat}

theorem mapPsp_lt {i : Nat} (hi : i < across * te * (down * 8)) :
    mapPsp i (across * te) eb < across * te * (down * 8) := by
  have hte : 0 < te * 8 := Nat.mul_pos (pspTile_pos h128).1 (by decide)
  rw [mapPsp_eq_tilePlace h128]
  exact tilePlace_lt (Nat.div_lt_of_lt_mul (by linarith)) (Nat.mod_lt i hte)

theorem mapPsp_inj {i j : Nat} (hi : i < across * te * (down * 8)) (hj : j < across * te * (down * 8))
    (h : mapPsp i (across * te) eb = mapPsp j (across * te) eb) : i = j := by
  have hte : 0 < te * 8 := Nat.mul_pos (pspTile_pos h128).1 (by decide)
  rw [mapPsp_eq_tilePlace h128, mapPsp_eq_tilePlace h128] at h
  obtain ⟨htile, hplace⟩ := tilePlace_inj (Nat.div_lt_of_lt_mul (by linarith)) (Nat.mod_lt i hte)
    (Nat.div_lt_of_lt_mul (by linarith)) (Nat.mod_lt j hte) h (down := down)
  exact Nat.ext_div_mod htile hplace

/-- The tile, the row and the column of an element from its bit offset (48_reorder.md rule R380). -/
theorem mapPsp_eq_of_offset (i across : Nat) :
    mapPsp i (across * te) eb =
      (i * eb / (128 * 8) / across * 8 + i * eb % (128 * 8) / 128) * (across * te) +
        (i * eb / (128 * 8) % across * te + i * eb % 128 / eb) := by
  obtain ⟨-, heb⟩ := pspTile_pos h128
  have tile : i * eb / (128 * 8) = i / (te * 8) := by
    rw [← h128, Nat.mul_right_comm, Nat.mul_div_mul_right _ _ heb]
  have row : i * eb % (128 * 8) / 128 = i % (te * 8) / te := by
    rw [← h128, Nat.mul_right_comm, Nat.mul_mod_mul_right, Nat.mul_div_mul_right _ _ heb]
  have column : i * eb % 128 / eb = i % (te * 8) % te := by
    rw [← h128, Nat.mul_mod_mul_right, Nat.mul_div_cancel _ heb, Nat.mod_mul_right_mod]
  rw [tile, row, column, mapPsp_eq_tilePlace h128, tilePlace]

end

/-- Settles O53: both maps send a number in a tile to a place in it, and count the tiles in raster order. -/
theorem tileMapsAreBijections : Obligations.TileMapsAreBijections := by
  intro c w h eb hc
  refine ⟨fun i => ?place, fun hw hh => ?tile3ds, fun heb hw hh => ?psp⟩
  case place =>
    obtain ⟨row, column⟩ := stdTile3dsOrder_bits (i % 64) (Nat.mod_lt i (by decide))
    refine ⟨rfl, ?_⟩
    rw [mapTile3ds, tile3dsOrder_default hc, row, column]
  case tile3ds =>
    obtain ⟨across, rfl⟩ := exists_eq_mul_left_of_dvd (Nat.dvd_of_mod_eq_zero hw)
    obtain ⟨down, rfl⟩ := exists_eq_mul_left_of_dvd (Nat.dvd_of_mod_eq_zero hh)
    exact ⟨fun i => mapTile3ds_lt hc, fun i j => mapTile3ds_inj hc⟩
  case psp =>
    obtain ⟨te, h128⟩ := exists_eq_mul_left_of_dvd (Nat.dvd_of_mod_eq_zero heb)
    have width : 128 / eb = te := by rw [h128, Nat.mul_div_cancel _ (pspTile_pos h128.symm).2]
    rw [width] at hw ⊢
    obtain ⟨across, rfl⟩ := exists_eq_mul_left_of_dvd (Nat.dvd_of_mod_eq_zero hw)
    obtain ⟨down, rfl⟩ := exists_eq_mul_left_of_dvd (Nat.dvd_of_mod_eq_zero hh)
    have tiles : across * te * eb / 128 = across := by
      rw [Nat.mul_assoc, ← h128, Nat.mul_div_cancel _ (by decide : 0 < 128)]
    rw [tiles]
    exact ⟨fun i => ⟨rfl, mapPsp_eq_of_offset h128.symm i across⟩, fun i => mapPsp_lt h128.symm,
      fun i j => mapPsp_inj h128.symm⟩

end Sys2Proof.Machine
end

section
/-! SUPPORT. What a reordering does with a buffer: every element at its place, the last one winning, and a picture
restored from its tiles (48_reorder.md rules R365, R366, R371, R377). -/

namespace Sys2Proof.Machine

/-! ## Placing elements -/

/-- One element of the fold of `reorderList`. -/
def placeElement {α : Type} (n : Nat) (dest : Option Nat) (v : α) (dst : List α) : List α :=
  match dest with
  | none => dst
  | some d => if d < n then dst.set d v else dst

@[simp] theorem placeElement_length {α : Type} (n : Nat) (dest : Option Nat) (v : α) (dst : List α) :
    (placeElement n dest v dst).length = dst.length := by
  cases dest with
  | none => rfl
  | some d =>
    rw [placeElement]
    split
    · exact List.length_set
    · rfl

theorem placeElement_getElem? {α : Type} {n d : Nat} (hd : d < n) (dest : Option Nat) (v : α) {dst : List α}
    (hlen : dst.length = n) : (placeElement n dest v dst)[d]? = if dest = some d then some v else dst[d]? := by
  cases dest with
  | none => rfl
  | some e =>
    simp only [placeElement, Option.some.injEq]
    by_cases he : e = d
    · subst he
      rw [if_pos hd, if_pos rfl, List.getElem?_set_self (hlen ▸ hd)]
    · rw [if_neg he]
      split
      · exact List.getElem?_set_ne he
      · rfl

theorem reorderList_eq_foldl {α : Type} (c : Config) (ro : Reorder) (src : List α) (w h eb : Nat) (fill : α) :
    reorderList c ro src w h eb fill =
      (List.range (w * h)).foldl
        (fun dst i => placeElement (w * h) (reordMap c ro i w h eb) (src.getD i fill) dst)
        (List.replicate (w * h) fill) := rfl

theorem reorderList_length {α : Type} (c : Config) (ro : Reorder) (src : List α) (w h eb : Nat) (fill : α) :
    (reorderList c ro src w h eb fill).length = w * h := by
  rw [reorderList_eq_foldl]
  exact List.foldlRecOn (motive := fun dst : List α => dst.length = w * h) _ _ List.length_replicate
    fun dst hdst i _ => (placeElement_length ..).trans hdst

/-- What is at a place in the end: the last element that the map sends there, or the fill value. -/
theorem reorderList_getElem? {α : Type} (c : Config) (ro : Reorder) (src : List α) {w h d : Nat} (hd : d < w * h)
    (eb : Nat) (fill : α) :
    let lands := fun i => reordMap c ro i w h eb = some d
    let dst := reorderList c ro src w h eb fill
    (∀ i, i < w * h → lands i → (∀ j, i < j → j < w * h → ¬ lands j) → dst[d]? = some (src.getD i fill)) ∧
    ((∀ i, i < w * h → ¬ lands i) → dst[d]? = some fill) := by
  intro lands dst
  have blank : (List.replicate (w * h) fill)[d]? = some fill := List.getElem?_replicate_of_lt hd
  have fold := foldl_range_lastWriter (cell := fun dst : List α => dst[d]?) (P := lands)
    (g := fun i => some (src.getD i fill)) (I := fun dst : List α => dst.length = w * h)
    (f := fun dst i => placeElement (w * h) (reordMap c ro i w h eb) (src.getD i fill) dst)
    (fun dst i hlen => (placeElement_length ..).trans hlen)
    (fun dst i hlen hi => (placeElement_getElem? hd _ _ hlen).trans (if_pos hi))
    (fun dst i hlen hi => (placeElement_getElem? hd _ _ hlen).trans (if_neg hi))
    (List.length_replicate (n := w * h) (a := fill)) (w * h)
  obtain ⟨-, hlast, hnone⟩ := fold
  exact ⟨hlast, fun h => (hnone h).trans blank⟩

/-! ## The stage -/

theorem State.withIdx_midJob (s : State) (ix : List Byte) (g : Stage) : s.midJob (s.withIdx ix g) := by
  simp [State.midJob, State.sameInputs, State.sameOutputs, State.sameStatus]

section
variable {ro : Reorder} {s : State} (hro : ro ≠ .linear) (h0 : descSpecial s.inFmt = 0)
  (hr : reorderable s.cfg ro s.w s.h s.inBpp.bits)
include hro h0 hr

theorem exec_reordOf_indexed (hx : s.isIndexed = true) :
    exec (reordOf ro) s =
      .next (s.withIdx (reorderList s.cfg ro s.idxBuf s.w s.h s.inBpp.bits 0) .filter) := by
  rw [exec_reordOf hro]
  simp [reordStage, h0, reordSub_eq_none_iff.mpr hr, hx]

theorem exec_reordOf_plain (hx : s.isIndexed = false) :
    exec (reordOf ro) s =
      .next (s.withCanon (reorderList s.cfg ro s.canon s.w s.h s.inBpp.bits fillPixel) .filter) := by
  rw [exec_reordOf hro]
  simp [reordStage, h0, reordSub_eq_none_iff.mpr hr, hx]

end

/-- Settles O51: the job's own buffer is reordered, by the fold whose last writer wins. -/
theorem reordPlacesElements : Obligations.ReordPlacesElements := by
  intro ro s hro h0 hr lands last
  cases hx : s.isIndexed with
  | true =>
    refine ⟨_, exec_reordOf_indexed hro h0 hr hx, rfl, rfl, rfl, rfl, State.withIdx_midJob .., nofun, fun _ =>
      ⟨rfl, reorderList_length .., fun d hd => ?_⟩⟩
    obtain ⟨hlast, hnone⟩ := reorderList_getElem? s.cfg ro s.idxBuf hd s.inBpp.bits 0
    exact ⟨fun i hi ⟨hland, hlater⟩ => hlast i hi hland hlater, hnone⟩
  | false =>
    refine ⟨_, exec_reordOf_plain hro h0 hr hx, rfl, rfl, rfl, rfl, State.withCanon_midJob .., fun _ =>
      ⟨rfl, reorderList_length .., fun d hd => ?_⟩, nofun⟩
    obtain ⟨hlast, hnone⟩ := reorderList_getElem? s.cfg ro s.canon hd s.inBpp.bits fillPixel
    exact ⟨fun i hi ⟨hland, hlater⟩ => hlast i hi hland hlater, hnone⟩

/-! ## Untiling -/

/-- A map of the numbers below `n` to one another that sends no two to one reaches each. -/
theorem exists_lt_of_injective {n : Nat} {f : Nat → Nat} (maps : ∀ i, i < n → f i < n)
    (inj : ∀ i j, i < n → j < n → f i = f j → i = j) {d : Nat} (hd : d < n) : ∃ i, i < n ∧ f i = d := by
  have hmaps : Set.MapsTo f (Finset.range n) (Finset.range n) := fun i hi => by
    simpa using maps i (by simpa using hi)
  have hinj : Set.InjOn f (Finset.range n) := fun i hi j hj => inj i j (by simpa using hi) (by simpa using hj)
  obtain ⟨i, hi, hid⟩ := Finset.surjOn_of_injOn_of_card_le f hmaps hinj le_rfl (a := d) (by simpa using hd)
  exact ⟨i, by simpa using hi, hid⟩

/-- Settles O52: one element of the fixture lands on each place, and it is the picture's element of that place. -/
theorem tile3dsUntilesTheFixture : Obligations.Tile3dsUntilesTheFixture := by
  intro α c picture fixture fill eb hc hpicture hfixture hfix
  refine List.ext_getElem?' fun d hd => ?_
  rw [reorderList_length, hpicture, max_self] at hd
  have inj : ∀ i j, i < 16 * 16 → j < 16 * 16 → mapTile3ds c i 16 = mapTile3ds c j 16 → i = j := fun i j =>
    mapTile3ds_inj hc (across := 2) (down := 2)
  obtain ⟨i, hi, hid⟩ := exists_lt_of_injective (fun i => mapTile3ds_lt hc (across := 2) (down := 2)) inj hd
  obtain ⟨hlast, -⟩ := reorderList_getElem? c .tile3ds fixture hd eb fill
  have alone : ∀ j, i < j → j < 16 * 16 → ¬ reordMap c .tile3ds j 16 16 eb = some d := fun j hij hj hjd =>
    hij.ne (inj i j hi hj (hid.trans (Option.some.inj hjd).symm))
  calc (reorderList c .tile3ds fixture 16 16 eb fill)[d]?
      = some (fixture.getD i fill) := hlast i hi (congrArg some hid) alone
    _ = fixture[i]? := by rw [List.getD_eq_getElem _ _ (hfixture ▸ hi), List.getElem?_eq_getElem]
    _ = picture[d]? := by rw [hfix i hi, show mapTile3ds c i 16 = d from hid]

end Sys2Proof.Machine
end

section
/-! SUPPORT. The Switch map and the byte address it inverts (48_reorder.md rules R383, R384). -/

namespace Sys2Proof.Machine

theorem switchBlockHeight_default {c : Config} (hc : c.tables = none) (h : Nat) :
    switchBlockHeight c h =
      if h ≤ 8 then 1 else if h ≤ 16 then 2 else if h ≤ 32 then 4 else if h ≤ 64 then 8 else 16 := by
  have rows : ∀ n, (h + 7) / 8 ≤ n ↔ h ≤ 8 * n := fun n => by omega
  simp only [switchBlockHeight, hc, stdSwitchBlockHeight, rows]

/-! ## One GOB -/

/-- In a GOB, which is 64 bytes wide and 8 rows high, the address of the byte in column `xb` of row `y`. -/
def gobAddr (xb y : Nat) : Nat := xb / 32 * 256 + y / 2 * 64 + xb % 32 / 16 * 32 + y % 2 * 16 + xb % 16

/-- The fields of an address in a GOB give back the column and the row. -/
theorem gobAddr_fields : ∀ xb < 64, ∀ y < 8,
    gobAddr xb y < 512 ∧
    gobAddr xb y / 256 * 32 + gobAddr xb y / 32 % 2 * 16 + gobAddr xb y % 16 = xb ∧
    gobAddr xb y / 64 % 4 * 2 + gobAddr xb y / 16 % 2 = y := by decide

/-! ## The address -/

/-- Everything in an address but the column's low bits counts runs of 16 bytes, of which an element is a part. -/
theorem size_dvd_switchAddr (c : Config) (x y w h : Nat) {eb : Nat} (hsize : eb / 8 ∣ 16) :
    eb / 8 ∣ switchAddr c x y w h eb := by
  have column : eb / 8 ∣ x * (eb / 8) % 16 := (Nat.dvd_mod_iff hsize).mpr (Nat.dvd_mul_left _ x)
  refine Nat.dvd_add (hsize.trans ?_) column
  have block : ∀ q bh : Nat, q * (512 * bh) = 16 * (q * (32 * bh)) := fun q bh => by ring
  simp only [Nat.mul_assoc 512, block]
  omega

/-- The picture is `gh` rows of `gw` blocks of `bh` GOBs. -/
theorem lt_switchPicture_iff {w h size bh gw gh : Nat} (hw : w * size = gw * 64) (hh : h = 8 * bh * gh)
    (hsize : 0 < size) {n : Nat} : n < 512 * bh * gw * gh ↔ n / size < w * h := by
  have bytes : 512 * bh * gw * gh = w * h * size := by
    calc 512 * bh * gw * gh = gw * 64 * (8 * bh * gh) := by ring
      _ = w * h * size := by rw [← hw, ← hh]; ring
  rw [bytes, Nat.div_lt_iff_lt_mul hsize]

section
variable {c : Config} {w h eb bh gw : Nat} (hbh : switchBlockHeight c h = bh) (hw : w * (eb / 8) = gw * 64)
include hbh hw

/-- The address is made of the number of the row of blocks, of the block in it and of the GOB in the block, and of the
address in the GOB. -/
theorem switchAddr_eq (x y : Nat) :
    switchAddr c x y w h eb =
      y / (8 * bh) * (512 * bh * gw) + (x * (eb / 8) / 64 * (512 * bh) +
        (y % (8 * bh) / 8 * 512 + gobAddr (x * (eb / 8) % 64) (y % 8))) := by
  have hgw : w * (eb / 8) / 64 = gw := by rw [hw, Nat.mul_div_cancel _ (by decide)]
  have half : x * (eb / 8) % 64 % 32 = x * (eb / 8) % 32 := by omega
  have quarter : x * (eb / 8) % 64 % 16 = x * (eb / 8) % 16 := by omega
  have parity : y % 8 % 2 = y % 2 := by omega
  simp only [switchAddr, hbh, hgw, gobAddr, half, quarter, parity]
  ring

/-- The map reads the fields of an address off it, where each stays below the next. -/
theorem mapSwitch_of_fields {i row col gob o : Nat} (hcol : col < gw) (hgob : gob < bh) (ho : o < 512)
    (hi : i * (eb / 8) = row * (512 * bh * gw) + (col * (512 * bh) + (gob * 512 + o))) :
    mapSwitch c i w h eb =
      (row * (8 * bh) + gob * 8 + o / 64 % 4 * 2 + o / 16 % 2) * w +
        (col * 64 + o / 256 * 32 + o / 32 % 2 * 16 + o % 16) / (eb / 8) := by
  have hgw : w * (eb / 8) / 64 = gw := by rw [hw, Nat.mul_div_cancel _ (by decide)]
  have inBlock := pixelIndex_lt ho hgob
  have inRow := pixelIndex_lt inBlock hcol
  simp only [mapSwitch, hbh, hgw, hi, pixelIndex_div inRow, pixelIndex_mod inRow, pixelIndex_div inBlock,
    pixelIndex_mod inBlock, pixelIndex_div ho, pixelIndex_mod ho]

variable {gh : Nat} (hh : h = 8 * bh * gh) (hsize : 0 < eb / 8)
include hh hsize

/-- Under the geometry condition the fields of an address are those of a place in the picture. -/
theorem mapSwitch_switchAddr {x y : Nat} (hx : x < w) (hy : y < h) (hdvd : eb / 8 ∣ switchAddr c x y w h eb) :
    switchAddr c x y w h eb / (eb / 8) < w * h ∧
      mapSwitch c (switchAddr c x y w h eb / (eb / 8)) w h eb = y * w + x := by
  have hrow : y / (8 * bh) < gh := Nat.div_lt_of_lt_mul (hh ▸ hy)
  have hcol : x * (eb / 8) / 64 < gw := by
    have := Nat.mul_lt_mul_of_pos_right hx hsize
    omega
  have hgob : y % (8 * bh) / 8 < bh := Nat.div_lt_of_lt_mul (Nat.mod_lt y (Nat.pos_of_lt_mul_right (hh ▸ hy)))
  have addr := switchAddr_eq hbh hw x y
  obtain ⟨ho, columnInGob, rowInGob⟩ := gobAddr_fields (x * (eb / 8) % 64) (Nat.mod_lt _ (by decide)) (y % 8)
    (Nat.mod_lt _ (by decide))
  generalize gobAddr (x * (eb / 8) % 64) (y % 8) = o at addr ho columnInGob rowInGob
  refine ⟨?below, ?inverts⟩
  case below =>
    rw [← lt_switchPicture_iff hw hh hsize, addr]
    exact pixelIndex_lt (pixelIndex_lt (pixelIndex_lt ho hgob) hcol) hrow
  case inverts =>
    rw [mapSwitch_of_fields hbh hw hcol hgob ho ((Nat.div_mul_cancel hdvd).trans addr)]
    have row : y / (8 * bh) * (8 * bh) + y % (8 * bh) / 8 * 8 + o / 64 % 4 * 2 + o / 16 % 2 = y := by
      have blockRow : y / (8 * bh) * (8 * bh) + y % (8 * bh) = y := Nat.div_add_mod' ..
      have line : y % (8 * bh) % 8 = y % 8 := Nat.mod_mul_right_mod ..
      omega
    have column : x * (eb / 8) / 64 * 64 + o / 256 * 32 + o / 32 % 2 * 16 + o % 16 = x * (eb / 8) := by omega
    rw [row, column, Nat.mul_div_cancel _ hsize]

/-- Every address below the size of the picture has a row of blocks, a block, a GOB and a byte of the picture. -/
theorem mapSwitch_lt {i : Nat} (hi : i < w * h) : mapSwitch c i w h eb < w * h := by
  have inPicture : i * (eb / 8) < 512 * bh * gw * gh := by
    rwa [lt_switchPicture_iff hw hh hsize, Nat.mul_div_cancel _ hsize]
  have inRow := Nat.mod_lt (i * (eb / 8)) (Nat.pos_of_lt_mul_right inPicture)
  have inBlock := Nat.mod_lt (i * (eb / 8) % (512 * bh * gw)) (Nat.pos_of_lt_mul_right inRow)
  have hrow := Nat.div_lt_of_lt_mul inPicture
  have hcol := Nat.div_lt_of_lt_mul inRow
  have hgob := Nat.div_lt_of_lt_mul inBlock
  have ho := Nat.mod_lt (i * (eb / 8) % (512 * bh * gw) % (512 * bh)) (by decide : 0 < 512)
  rw [mapSwitch_of_fields hbh hw hcol hgob ho (by rw [Nat.div_add_mod', Nat.div_add_mod', Nat.div_add_mod'])]
  refine pixelIndex_lt ?column ?row
  case column =>
    rw [Nat.div_lt_iff_lt_mul hsize, hw]
    omega
  case row =>
    have lastLine := pixelIndex_lt (pixelIndex_lt (w := 8) (x := 7) (by decide) hgob) hrow
    rw [← hh] at lastLine
    omega

end

/-- Settles O54: the size of an element divides every address, whose fields the map reads. -/
theorem switchMapInvertsTheAddress : Obligations.SwitchMapInvertsTheAddress := by
  intro c w h eb hc size bh gw addr heb hw hh
  have hbh : switchBlockHeight c h = bh := switchBlockHeight_default hc h
  have haddr : ∀ x y, switchAddr c x y w h eb = addr x y := fun x y => by simp only [switchAddr, hbh]; rfl
  have hsize : 0 < eb / 8 ∧ eb / 8 ∣ 16 := by
    revert heb
    simp only [List.mem_cons, List.not_mem_nil, or_false]
    rintro (rfl | rfl | rfl | rfl | rfl) <;> decide
  obtain ⟨gw, hgw⟩ := exists_eq_mul_left_of_dvd (Nat.dvd_of_mod_eq_zero hw)
  obtain ⟨gh, hgh⟩ := Nat.dvd_of_mod_eq_zero hh
  refine ⟨fun x y hx hy => ?address, fun i hi => ⟨_, rfl, mapSwitch_lt hbh hgw hgh hsize.1 hi⟩⟩
  have hdvd := size_dvd_switchAddr c x y w h hsize.2
  obtain ⟨hlt, hmap⟩ := mapSwitch_switchAddr hbh hgw hgh hsize.1 hx hy hdvd
  rw [haddr] at hdvd hlt hmap
  exact ⟨Nat.mod_eq_zero_of_dvd hdvd, hlt, congrArg some hmap⟩

end Sys2Proof.Machine
end

section
/-! SUPPORT. The Morton map: the bits of the two halves of a number, the map in the operators of the rule, and where the
shorter side is a power of two that divides the longer, its inverse, the twiddle of 47_pvrtc.md rule R335 (48_reorder.md
rules R372 to R374). -/

namespace Sys2Proof.Machine

/-! ## Even and odd bits -/

theorem testBit_evenBits {fuel i : Nat} (h : i ≤ fuel) (n : Nat) : (evenBits fuel i).testBit n = i.testBit (2 * n) := by
  induction fuel generalizing i n with
  | zero => rw [Nat.le_zero.mp h, evenBits, Nat.zero_testBit, Nat.zero_testBit]
  | succ fuel ih =>
    rw [evenBits]
    split
    · subst i
      simp
    · cases n with
      | zero => simp [Nat.testBit_zero]
      | succ n =>
        have rest : (i % 2 + 2 * evenBits fuel (i / 4)) / 2 = evenBits fuel (i / 4) := by omega
        have quarter : i / 2 / 2 = i / 4 := by omega
        rw [Nat.mul_succ, Nat.testBit_succ, rest, ih (by omega), Nat.testBit_succ, Nat.testBit_succ, quarter]

theorem testBit_evenOf (i n : Nat) : (evenOf i).testBit n = i.testBit (2 * n) := testBit_evenBits (Nat.le_refl i) n

theorem testBit_oddOf (i n : Nat) : (oddOf i).testBit n = i.testBit (2 * n + 1) := by
  rw [oddOf, testBit_evenOf, Nat.testBit_succ]

/-! ## The map in every geometry -/

theorem mapMorton_eq_of_bits {i w h even odd k : Nat} (heven : ∀ n, even.testBit n = i.testBit (2 * n))
    (hodd : ∀ n, odd.testBit n = i.testBit (2 * n + 1)) (hk : 2 ^ k ≤ min w h) (hk' : min w h < 2 ^ (k + 1)) :
    let hi := i >>> (2 * k) <<< (2 * k)
    let j :=
      if h < w then hi ||| ((odd &&& (min w h - 1)) <<< k) ||| (even &&& (min w h - 1))
      else hi ||| ((even &&& (min w h - 1)) <<< k) ||| (odd &&& (min w h - 1))
    let x := if h < w then j / h else j % w
    let y := if h < w then j % h else j / w
    mapMorton i w h = if x < w ∧ y < h then some (y * w + x) else none := by
  have hlog : Nat.log2 (min w h) = k := (Nat.log2_eq_iff (by have := Nat.two_pow_pos k; omega)).mpr ⟨hk, hk'⟩
  obtain rfl : even = evenOf i := Nat.eq_of_testBit_eq fun n => (heven n).trans (testBit_evenOf i n).symm
  obtain rfl : odd = oddOf i := Nat.eq_of_testBit_eq fun n => (hodd n).trans (testBit_oddOf i n).symm
  have outside : ∀ (x y : Nat) (d : Option Nat),
      (if w ≤ x ∨ h ≤ y then none else d) = if x < w ∧ y < h then d else none := fun x y d => by
    rw [← ite_not]
    simp only [not_or, Nat.not_le]
  simp only [mapMorton, hlog, Nat.shiftLeft_eq, Nat.shiftRight_eq_div_pow, outside]
  by_cases hw : h < w
  · simp only [hw, if_true]
  · simp only [hw, if_false]

/-! ## The bijection -/

/-- A high part and two groups of `k` bits side by side. -/
theorem lor_bitGroups (hi mid low k : Nat) :
    hi * 4 ^ k ||| mid % 2 ^ k * 2 ^ k ||| low % 2 ^ k = (hi * 2 ^ k + mid % 2 ^ k) * 2 ^ k + low % 2 ^ k := by
  have hlow : low % 2 ^ k < 2 ^ k := Nat.mod_lt _ (Nat.two_pow_pos k)
  have hmid : mid % 2 ^ k * 2 ^ k < 2 ^ (2 * k) := by
    rw [Nat.two_mul, Nat.pow_add]
    exact Nat.mul_lt_mul_of_pos_right (Nat.mod_lt _ (Nat.two_pow_pos k)) (Nat.two_pow_pos k)
  rw [show 4 ^ k = 2 ^ (2 * k) from (Nat.pow_mul 2 2 k).symm, Nat.mul_comm hi, ← Nat.two_pow_add_eq_or_of_lt hmid]
  have factor : 2 ^ (2 * k) * hi + mid % 2 ^ k * 2 ^ k = 2 ^ k * (hi * 2 ^ k + mid % 2 ^ k) := by ring
  rw [factor, ← Nat.two_pow_add_eq_or_of_lt hlow, Nat.mul_comm]

theorem testBit_of_mod_eq {u v k m : Nat} (h : u % 2 ^ k = v % 2 ^ k) (hm : m < k) : u.testBit m = v.testBit m := by
  have := congrArg (Nat.testBit · m) h
  simpa [Nat.testBit_mod_two_pow, hm] using this

section
variable {w h k : Nat} (hk : 2 ^ k = min w h)
include hk

/-- Where the shorter side is `2 ^ k`, the groups of the number are those of the two coordinates. -/
theorem mapMorton_eq_of_min (i : Nat) :
    let long := i / 4 ^ k * 2 ^ k
    let x := (if h < w then long else 0) + oddOf i % 2 ^ k
    let y := (if h < w then 0 else long) + evenOf i % 2 ^ k
    mapMorton i w h = if w ≤ x ∨ h ≤ y then none else some (y * w + x) := by
  have groups : ∀ m, m % 2 ^ k < 2 ^ k := fun m => Nat.mod_lt m (Nat.two_pow_pos k)
  have four : 2 ^ (2 * k) = 4 ^ k := Nat.pow_mul 2 2 k
  by_cases hw : h < w
  · obtain rfl : h = 2 ^ k := by omega
    simp only [mapMorton, ← hk, Nat.log2_two_pow, Nat.and_two_pow_sub_one_eq_mod, lor_bitGroups, if_pos hw,
      pixelIndex_mod (groups _), pixelIndex_div (groups _), four, Nat.zero_add]
  · obtain rfl : w = 2 ^ k := by omega
    simp only [mapMorton, ← hk, Nat.log2_two_pow, Nat.and_two_pow_sub_one_eq_mod, lor_bitGroups, if_neg hw,
      pixelIndex_mod (groups _), pixelIndex_div (groups _), four, Nat.zero_add]

/-- Where the shorter side is a power of two that divides the longer, every element has a place, whose coordinates are
made of the groups of its number. -/
theorem mapMorton_place (hmax : 2 ^ k ∣ max w h) {i : Nat} (hi : i < w * h) :
    ∃ x y, x < w ∧ y < h ∧ mapMorton i w h = some (y * w + x) ∧ x % 2 ^ k = oddOf i % 2 ^ k ∧
      y % 2 ^ k = evenOf i % 2 ^ k ∧ (if h < w then x else y) / 2 ^ k = i / 4 ^ k := by
  obtain ⟨q, hq⟩ := hmax
  have groups : ∀ m, m % 2 ^ k < 2 ^ k := fun m => Nat.mod_lt m (Nat.two_pow_pos k)
  have high : i / 4 ^ k < q := by
    refine Nat.div_lt_of_lt_mul ?_
    rwa [show 4 = 2 * 2 from rfl, Nat.mul_pow, Nat.mul_assoc, ← hq, hk, min_mul_max]
  have long : ∀ m, i / 4 ^ k * 2 ^ k + m % 2 ^ k < max w h := fun m => hq ▸ pixelIndex_lt (groups m) high
  have hmap := mapMorton_eq_of_min hk i
  by_cases hw : h < w
  · simp only [hw, if_true, Nat.zero_add] at hmap ⊢
    have hx : i / 4 ^ k * 2 ^ k + oddOf i % 2 ^ k < w := max_eq_left_of_lt hw ▸ long (oddOf i)
    have hy : evenOf i % 2 ^ k < h := (groups _).trans_eq (hk.trans (min_eq_right_of_lt hw))
    exact ⟨_, _, hx, hy, hmap.trans (if_neg (by omega)), pixelIndex_mod (groups _) _, Nat.mod_mod _ _,
      pixelIndex_div (groups _) _⟩
  · simp only [hw, if_false, Nat.zero_add] at hmap ⊢
    have hx : oddOf i % 2 ^ k < w := (groups _).trans_eq (hk.trans (min_eq_left (Nat.not_lt.mp hw)))
    have hy : i / 4 ^ k * 2 ^ k + evenOf i % 2 ^ k < h := max_eq_right (Nat.not_lt.mp hw) ▸ long (evenOf i)
    exact ⟨_, _, hx, hy, hmap.trans (if_neg (by omega)), Nat.mod_mod _ _, pixelIndex_mod (groups _) _,
      pixelIndex_div (groups _) _⟩

/-- The map is inverse to the twiddle. -/
theorem mapMorton_inverts_twiddle (hmax : 2 ^ k ∣ max w h) {i : Nat} (hi : i < w * h) :
    ∃ x y, x < w ∧ y < h ∧ mapMorton i w h = some (y * w + x) ∧ twiddle w h x y = i := by
  obtain ⟨x, y, hx, hy, hmap, hodd, heven, hhigh⟩ := mapMorton_place hk hmax hi
  refine ⟨x, y, hx, hy, hmap, Nat.ext_div_mod ((twiddle_div hk x y).trans hhigh) ?_⟩
  rw [show 4 ^ k = 2 ^ (2 * k) from (Nat.pow_mul 2 2 k).symm]
  refine mod_two_pow_eq_of_testBit fun n hn => ?_
  obtain ⟨m, rfl | rfl⟩ := Nat.even_or_odd' n
  · rw [(testBit_twiddle hk (by omega) x y).1, testBit_of_mod_eq heven (by omega), testBit_evenOf]
  · rw [(testBit_twiddle hk (by omega) x y).2, testBit_of_mod_eq hodd (by omega), testBit_oddOf]

end

/-- Settles O55: the map is the formula of the rule, and the twiddle gives back the element from its place. -/
theorem mortonMapIsABijection : Obligations.MortonMapIsABijection := by
  refine ⟨fun c i w h eb even odd _ _ heven hodd k hk hk' => mapMorton_eq_of_bits heven hodd hk hk',
    fun w h hpow hmod => ?_⟩
  obtain ⟨k, hk⟩ := isPow2_iff.mp hpow
  have hmax : 2 ^ k ∣ max w h := hk ▸ Nat.dvd_of_mod_eq_zero hmod
  refine ⟨fun i hi => ?into, fun i j hi hj hij => ?inj, fun i d m hi hid hm => ?bits⟩
  case into =>
    obtain ⟨x, y, hx, hy, hmap, -⟩ := mapMorton_inverts_twiddle hk.symm hmax hi
    exact ⟨_, hmap, pixelIndex_lt hx hy⟩
  case inj =>
    obtain ⟨x, y, hx, hy, hmap, rfl⟩ := mapMorton_inverts_twiddle hk.symm hmax hi
    obtain ⟨x', y', hx', hy', hmap', rfl⟩ := mapMorton_inverts_twiddle hk.symm hmax hj
    rw [hmap, hmap', Option.some.injEq, pixelIndex_inj hx' hx] at hij
    rw [hij.1, hij.2]
  case bits =>
    obtain ⟨x, y, hx, hy, hmap, rfl⟩ := mapMorton_inverts_twiddle hk.symm hmax hi
    obtain rfl : y * w + x = d := Option.some.inj (hmap.symm.trans hid)
    simp only [pixelIndex_mod hx, pixelIndex_div hx]
    exact ⟨fun n hn => testBit_twiddle hm hn x y, twiddle_div hm x y⟩

end Sys2Proof.Machine
end

section
/-! SUPPORT. The output filter: the width that dithering aims at, the threshold of a place, and the range of the result
(49_filter.md rules R396 to R403). -/

namespace Sys2Proof.Machine

/-- Settles O57: what is resampled to `tb` bits has `tb` bits (42_channel_codec.md rule R160). -/
theorem ditherStaysInRange : Obligations.DitherStaysInRange :=
  fun tb _ _ _ _ _ _ _ => Nat.le_sub_one_of_lt (resample_lt (by decide) _ tb)

/-- A channel other than alpha takes the luminance's width where the layout packs one, and otherwise its own where the
layout names it (49_filter.md rule R399). -/
theorem targetBits_color (d : DescWord) {ch : Chan} (h : ch ≠ .a) :
    targetBits d ch =
      if .l ∈ outChannels d then descRbits d else if ch ∈ outChannels d then (plainOf d).width ch else 0 := by
  cases ch with
  | a => exact absurd rfl h
  | r | g | b | l | x => simp only [targetBits, List.contains_iff_mem]; rfl

theorem targetBits_alpha (d : DescWord) : targetBits d .a = if .a ∈ outChannels d then descAbits d else 0 := by
  simp only [targetBits, List.contains_iff_mem]
  rfl

theorem bayer8_default {c : Config} (hc : c.tables = none) : bayer8 c = stdBayer8 := by rw [bayer8, hc]; rfl

/-- Dithering a picture of width `w` dithers the pixel in column `x` of row `y` with the threshold of `(x, y)`. -/
theorem ditherList_getElem? (c : Config) (d : DescWord) {w x y : Nat} {px : List Pixel} {p : Pixel} (hx : x < w)
    (hp : px[y * w + x]? = some p) : (ditherList c d w px)[y * w + x]? = some (ditherPixel c d x y p) := by
  rw [ditherList, List.getElem?_mapIdx, hp, Option.map_some, pixelIndex_mod hx, pixelIndex_div hx]

theorem ditherList_length (c : Config) (d : DescWord) (w : Nat) (px : List Pixel) :
    (ditherList c d w px).length = px.length := List.length_mapIdx

theorem exec_filtNone (s : State) : exec .filtNone s = .next (s.toStage .pack) := rfl

theorem exec_filtDither_indexed {s : State} (h : s.isIndexed = true) :
    exec .filtDither s = .next (s.toStage .pack) := if_pos h

theorem exec_filtDither_plain {s : State} (h : s.isIndexed = false) :
    exec .filtDither s = .next (s.withCanon (ditherList s.cfg s.outFmt s.w s.canon) .pack) :=
  if_neg (by simp [h])

/-- Settles O56: the model's widths and thresholds are those of the rules. -/
theorem filtersComplete : Obligations.FiltersComplete := by
  intro s matrix threshold named color red green blue alpha dithered
  refine ⟨exec_filtNone s, exec_filtDither_indexed, fun h => ⟨_, exec_filtDither_plain h, rfl, ditherList_length ..,
    fun x y p hx hp => ?pixel, rfl, rfl, rfl, rfl, State.withCanon_midJob ..⟩⟩
  case pixel =>
    have hthreshold : bayerAt s.cfg x y = threshold x y := by
      simp only [threshold]
      split
      · rw [bayerAt, bayer8_default ‹_›]; rfl
      · rfl
    have channel : ∀ t v, ditherChannel s.cfg t x y v = dithered t x y v := fun t v => by
      simp only [ditherChannel, hthreshold, dithered]
    have hred : targetBits s.outFmt .r = red := targetBits_color _ (by decide)
    have hgreen : targetBits s.outFmt .g = green := targetBits_color _ (by decide)
    have hblue : targetBits s.outFmt .b = blue := targetBits_color _ (by decide)
    have halpha : targetBits s.outFmt .a = alpha := targetBits_alpha _
    rw [← hred, ← hgreen, ← hblue, ← halpha, ← channel, ← channel, ← channel, ← channel]
    exact ditherList_getElem? _ _ hx hp

end Sys2Proof.Machine
end

section
/-! SUPPORT. Errors and reset: what a raise writes and leaves, what is left of a job that has failed, and the one effect
of a reset (60_exceptions.md rules R411, R416, 70_reset_and_hazards.md rule R440). -/

namespace Sys2Proof.Machine

/-- Settles O17: the one state a raise builds. -/
theorem raiseRecordsTheError : Obligations.RaiseRecordsTheError := by
  intro s e v
  have discarded : (s.raise e v).jobDiscarded := ⟨rfl, rfl, rfl, rfl, rfl, rfl⟩
  have inputs : s.sameInputs (s.raise e v) := State.sameInputs_refl s
  have outputs : s.sameOutputs (s.raise e v) := ⟨rfl, rfl, rfl, rfl⟩
  exact ⟨State.raise_status .., State.raise_errCode .., State.raise_errInfo .., State.raise_stage .., discarded, inputs,
    outputs, State.raise_cmd ..⟩

/-- Settles O19: a reset reads the parameters only. -/
theorem resetAlwaysTheSame : Obligations.ResetAlwaysTheSame := by
  intro s u hc
  have reset : ∀ s : State, { hostReset s with jobs := 0 } = State.resetOf s.cfg := fun _ => rfl
  exact ⟨by rw [reset s, reset u, hc], reset s⟩

/-- In the job that `s` began no command is pending and the counter stands, unless the job has ended in `DONE`; and once
it has ended in `ERROR`, nothing of it is left inside the engine. -/
def State.leavesNoTrace (s u : State) : Prop :=
  u.status ≠ .done → u.cmd = none ∧ u.jobs = s.jobs ∧ (u.status = .error → u.jobDiscarded ∧ u.stage = .error)

theorem Moves.leavesNoTrace {s u v : State} (hb : u.status = .busy) (hu : s.leavesNoTrace u) (h : Moves u (.next v)) :
    s.leavesNoTrace v := by
  obtain ⟨hcmd, hjobs, -⟩ := hu (by simp [hb])
  cases h with
  | begins hi => simp [hb] at hi
  | cleared he => simp [hb] at he
  | raises e v _ =>
    obtain ⟨-, -, -, hstage, hdiscarded, -⟩ := raiseRecordsTheError u e v
    exact fun _ => ⟨hcmd, hjobs, fun _ => ⟨hdiscarded, hstage⟩⟩
  | emptyJob | packs => exact fun hd => absurd rfl hd
  | same | stage | decoded | decodedIdx | canon | idx =>
    exact fun _ => ⟨hcmd, hjobs, fun he => by simp [hb] at he⟩

/-- Two states in which the host may read, with the same outputs and counter, answer it alike. -/
theorem hostReads_of_sameOutputs {s t : State} (hs : s.status ≠ .busy ∧ s.cmd = none)
    (ht : t.status ≠ .busy ∧ t.cmd = none) (hcfg : t.cfg = s.cfg) (hout : s.sameOutputs t) (hjobs : t.jobs = s.jobs) :
    (∀ a, hostReadOut a t = hostReadOut a s) ∧ ∀ k a, hostReadTbl k a t = hostReadTbl k a s := by
  obtain ⟨houtLen, htblLen, hout, htbl⟩ := hout
  simp [hostReadOut, hostReadTbl, whileIdle, indexed, outputByte, hs, ht, hcfg, houtLen, htblLen, hout, htbl, hjobs]

/-- Settles O12: the whole job runs without a trace of it, and what the host reads is made of what is left alone. -/
theorem failedJobLeavesNoTrace : Obligations.FailedJobLeavesNoTrace := by
  intro s t hi hc h he
  have hin : s.sameInputs t := stepKeepsJobRegisters s t h
  have hout : s.sameOutputs t := outputsChangeOnlyAtDone s t h (by simp [he])
  have run : runStages 5 s.takeCmd.beginJob = .next t := step_start hi hc ▸ h
  have start : s.leavesNoTrace s.takeCmd.beginJob := fun _ => ⟨rfl, rfl, nofun⟩
  have stage : ∀ u v, u.status = .busy → s.leavesNoTrace u → stageStep u = .next v → s.leavesNoTrace v :=
    fun u v hb hu huv => (huv ▸ stageStep_moves huv).leavesNoTrace hb hu
  have clean : s.leavesNoTrace t := runStages_induct stage 5 _ t start run
  obtain ⟨hcmd, hjobs, hend⟩ := clean (by simp [he])
  obtain ⟨hdiscarded, hstage⟩ := hend he
  refine ⟨hin, hout, hdiscarded, hstage, hcmd, hjobs, ?reads⟩
  case reads =>
    exact hostReads_of_sameOutputs (s := s.takeCmd) ⟨by simp [hi], rfl⟩ ⟨by simp [he], hcmd⟩ hin.1 hout hjobs

end Sys2Proof.Machine
end
